-- ==== Sys2Proof/Word.lean ====
section
/-! DEFINITION. The words of the RZB4120: bytes, endpoint identifiers, stations, zones, and their plainest arithmetic
(Conventions of spec/00_scope.md; R120). -/

namespace Sys2Proof

/-- One byte of a frame, a message, the image or a running total. -/
abbrev Byte := BitVec 8

/-- An endpoint identifier (EID), 16 bits; 0xFFFF is BROADCAST. -/
abbrev Eid := BitVec 16

/-- A station number, 0..31. -/
abbrev Station := Fin 32

/-- A zone, 0..7. -/
abbrev Zone := Fin 8

/-- A bucket number, 0..255 (R2). -/
abbrev BucketNo := Fin 256

/-- A way of a bucket, 0..3 (R1). -/
abbrev Way := Fin 4

/-- A frame buffer's number, 0..63 (R63). -/
abbrev BufNo := Fin 64

/-- A zone set as the layouts code it: bit z set when zone z is a member (R120). -/
abbrev ZoneSet := BitVec 8

/-- The broadcast EID, 0xFFFF. -/
def broadcast : Eid := 0xFFFF#16

/-- Every station, in rising order. -/
def allStations : List Station := List.finRange 32

end Sys2Proof
end

