-- ==== Sys2Proof/Config.lean ====
section
/-! DEFINITION. The fixed figures of the part and the configured items with their defaults (spec/00_scope.md; R183,
section 12.4). The spec leaves no instruction a value open, so there is no free value here. -/

namespace Sys2Proof

/-- Urgent BTQ depth (R73). -/
def urgentDepth : Nat := 16
/-- Normal BTQ depth (R73). -/
def normalDepth : Nat := 32
/-- Delivery queue depth (R76). -/
def deliveryDepth : Nat := 32
/-- Request queue depth (R163). -/
def requestDepth : Nat := 4
/-- BUSY answers that may wait in the response list (R161). -/
def busyDepth : Nat := 4
/-- Event queue depth (R177). -/
def eventDepth : Nat := 16
/-- Attempt limit of a data frame (R75). -/
def attemptLimit : Nat := 16
/-- Missed count at which a peer is removed (R90, R91). -/
def missedLimit : Nat := 4
/-- Listen time, in announce intervals (R104). -/
def listenIntervals : Nat := 3
/-- Largest delivery allowance (R157). -/
def allowanceLimit : Nat := 64
/-- Slots of idle medium that gain sync (R144). -/
def quietSlots : Nat := 66
/-- Payload bytes stored of a data frame (R124, R149). -/
def payloadLimit : Nat := 256

/-- A zone set's default and the other defaults stand in `Config.defaults`; one value per configured item of
section 12.4, the station number apart (it comes from the straps). -/
structure Config where
  /-- SEGMENT, 0..63. -/
  segment : Nat
  /-- PREFERENCE, 0..15. -/
  preference : Nat
  /-- ZONES. -/
  zones : ZoneSet
  /-- ANNOUNCE_INTERVAL, 1..100, in 10 ms. -/
  interval : Nat
  /-- LINK_HOLD, 5..255, in 10 ms. -/
  linkHold : Nat
  /-- SWEEP_PERIOD, 0 (aging off) or 1..255 s. -/
  sweepPeriod : Nat
  /-- AGE_LIMIT, 1..7. -/
  ageLimit : Nat
  /-- LEARN. -/
  learn : Bool
  /-- DROP_UNKNOWN. -/
  dropUnknown : Bool
  /-- PREEMPT. -/
  preempt : Bool
  /-- LOCAL_CREDITS, 1..16. -/
  localCredits : Nat
deriving DecidableEq, Repr

/-- LINK_HOLD in force from device reset to the end of the first LOADING, and in CONFIG_FAULT (R148). -/
def defaultLinkHold : Nat := 50

/-- The defaults of section 12.4, taken when no memory answers; SEGMENT is the strap station number. -/
def Config.defaults (station : Station) : Config where
  segment := station
  preference := 8
  zones := 0xFF#8
  interval := 10
  linkHold := defaultLinkHold
  sweepPeriod := 30
  ageLimit := 4
  learn := true
  dropUnknown := false
  preempt := false
  localCredits := 8

end Sys2Proof
end

