-- ==== Sys2Proof/Syntax.lean ====
section
/-! DEFINITION. The commands the part takes: one constructor per row of spec/opcode_table.json, in the table's order.
The table gives the rows no fields; the operands are what each event brings with it (log 7, log 15, log 16). -/

namespace Sys2Proof

/-- The direction of a forwarding decision (R39). -/
inductive Side where
  /-- A frame from the card, a DATA_OUT. -/
  | card
  /-- A good DATA frame from a peer. -/
  | backplane
deriving DecidableEq, Repr

/-- Type, tag and body length of a good header of the card link (R125, R126). -/
structure LinkHeader where
  type : Byte
  tag : Byte
  length : Fin 271
deriving DecidableEq, Repr

/-- One command: an event of the outside, of a timer, or of a block's next claim. -/
inductive Instr where
  /-- RESET is asserted (R183). -/
  | deviceReset
  /-- RESET is released, or power-on completes, with the STN straps as they stand (R183). -/
  | resetRelease (straps : Station)
  /-- One byte read ends: the byte, or no acknowledgement (R184). -/
  | configByteRead (answer : Option Byte)
  /-- The medium passes to IDLE; `truncated` when that ends a frame whose byte 8 is not complete (R124, R134; log 16). -/
  | mediumGoesIdle (truncated : Bool)
  /-- Carrier appears on the medium (R134). -/
  | mediumLeavesIdle
  /-- A rung of the ladder begins (R136). -/
  | rungStart
  /-- In SYNCING the medium has stayed IDLE for 66 slots (R144). -/
  | quietCountExpiry
  /-- Byte 8 of the own frame has been sent (R137). -/
  | ownHeaderSent
  /-- An own control frame ends without collision (R138). -/
  | controlFrameSent
  /-- An own data frame ends without collision (R75, R78). -/
  | dataFrameSent
  /-- Collision sense while the own transmitter sends a frame (R141). -/
  | collision
  /-- The own jam ends (R138, R139, R141). -/
  | jamEnd
  /-- Collision sense with the transmitter OFF (R142). -/
  | jamSeen
  /-- Bytes 0 to 8 of a received frame have arrived (R124). -/
  | headerReceived (header : Vector Byte 9)
  /-- A frame with a good header ends after the bytes `rest` that followed the header (R124). -/
  | frameReceived (rest : List Byte)
  /-- The announce timer expires (R90). -/
  | announceTimerExpiry
  /-- The listen timer expires (R107). -/
  | listenTimerExpiry
  /-- A good header, a DATA_OUT's or another message's, with the bytes of the body that arrive behind it (R69, R149, R155; log 15). -/
  | dataOutHeader (header : LinkHeader) (arrived : List Byte)
  /-- The DATA_OUT being received ends with its whole body, its message check passed (R155, R156). -/
  | dataOut (body : List Byte)
  /-- The REQUEST being received ends with its whole body, its message check passed (R161). -/
  | request (tag : Byte) (body : List Byte)
  /-- The RECEIVE_READY being received, of length 1, ends with the accept total, its message check passed (R157). -/
  | receiveReady (total : Byte)
  /-- The IDLE being received, of length 0, ends with its message check passed (R150). -/
  | idle
  /-- The message being received, of this type and length, ends with its message check passed, and R126 discards it. -/
  | unusableMessage (type : Byte) (length : Fin 271)
  /-- The message being received ends with a failed message check (R150). -/
  | messageBadCheck
  /-- A header that is not good, from its first byte on (R149). -/
  | linkHeaderRejected (bytes : List Byte)
  /-- The link-hold timer expires; the straps, in case the warm restart begins here (R152, R173). -/
  | linkHoldExpiry (straps : Station)
  /-- The idle timer expires (R159). -/
  | idleTimerExpiry
  /-- The last byte of a DATA_IN is sent (R158). -/
  | dataInEnd
  /-- The last byte of a RESPONSE is sent; the straps, in case the warm restart begins here (R165, R173). -/
  | responseEnd (straps : Station)
  /-- The last byte of a STATUS is sent (R153). -/
  | statusEnd
  /-- The last byte of a CREDIT, EVENT or IDLE is sent (R159). -/
  | messageEnd
  /-- The current request, a READ_ENTRY, is executed (R167). -/
  | readEntry
  /-- The current request, a READ_BUCKET, is executed (R167). -/
  | readBucket
  /-- The current request, an ADD_STATIC, is executed (R168). -/
  | addStatic
  /-- The current request, a REMOVE, is executed (R168). -/
  | remove
  /-- The current request, a FLUSH, is executed (R169). -/
  | flush
  /-- The current request, a READ_PEER, is executed (R170). -/
  | readPeer
  /-- The current request, a READ_STATUS, is executed (R170). -/
  | readStatus
  /-- The current request, a READ_COUNTERS, is executed (R171). -/
  | readCounters
  /-- The current request, an ACK_EVENT, is executed (R172). -/
  | ackEvent
  /-- The current request, a RESTART, is executed; the straps, in case the warm restart begins here (R173; log 13). -/
  | restart (straps : Station)
  /-- The current request has no form of R129 and is answered BAD_REQUEST (R165). -/
  | badRequest
  /-- The sweep timer expires (R27). -/
  | sweepTimerExpiry
  /-- The running walker job visits the bucket at the cursor (R30). -/
  | bucketVisit
  /-- The decision at position `index` of its side makes its learn claim (R8). -/
  | learn (side : Side) (index : Nat)
  /-- The decision at position `index` of its side makes its lookup claim (R7), or the read of the peer table that follows it
  (R48, R50, R53; log 8). -/
  | lookup (side : Side) (index : Nat)
  /-- The oldest card decision reaches its hand-over (R51). -/
  | btqHandover
  /-- The oldest backplane decision reaches its hand-over (R60). -/
  | deliveryHandover
deriving DecidableEq, Repr

end Sys2Proof
end

