-- ==== Sys2Proof/Machine/Bytes.lean ====
section
/-! DEFINITION. Byte order, zone sets and vectors, and the two check sequences of R121. -/

namespace Sys2Proof.Machine

/-- The high byte of a 16-bit value. -/
def hiByte (w : BitVec 16) : Byte := w.extractLsb' 8 8

/-- The low byte of a 16-bit value. -/
def loByte (w : BitVec 16) : Byte := w.extractLsb' 0 8

/-- Two bytes as one 16-bit value, high byte first (R120). -/
def word16 (hi lo : Byte) : BitVec 16 := hi ++ lo

/-- A number as one byte, for codes and counts below 256. -/
def byteOf (n : Nat) : Byte := BitVec.ofNat 8 n

/-- Zone `z` is a member of the zone set. -/
def hasZone (zs : ZoneSet) (z : Zone) : Bool := zs.getLsbD z

/-- Apply `f` to every element of a vector; written with `ofFn` so that the kernel evaluates it. -/
def vmap {α β : Type} {n : Nat} (f : α → β) (v : Vector α n) : Vector β n := Vector.ofFn fun i => f v[i]


/-- One bit step of the CRC-8 register, polynomial 0x07 (R121). -/
def crc8Shift (r : BitVec 8) : BitVec 8 :=
  if r.msb then (r <<< 1) ^^^ 0x07#8 else r <<< 1

/-- One byte into the CRC-8 register, bit 7 first (R121). -/
def crc8Byte (r : BitVec 8) (b : Byte) : BitVec 8 :=
  Nat.repeat crc8Shift 8 (r ^^^ b)

/-- The CRC-8 over some bytes; the register starts at 0x00 (R121). -/
def crc8 (bytes : List Byte) : BitVec 8 := bytes.foldl crc8Byte 0x00#8

/-- One bit step of the CRC-16 register, polynomial 0x1021 (R121). -/
def crc16Shift (r : BitVec 16) : BitVec 16 :=
  if r.msb then (r <<< 1) ^^^ 0x1021#16 else r <<< 1

/-- One byte into the CRC-16 register, bit 7 first (R121). -/
def crc16Byte (r : BitVec 16) (b : Byte) : BitVec 16 :=
  Nat.repeat crc16Shift 8 (r ^^^ (b ++ 0x00#8 : BitVec 16))

/-- The CRC-16 over some bytes; the register starts at 0xFFFF (R121). -/
def crc16 (bytes : List Byte) : BitVec 16 := bytes.foldl crc16Byte 0xFFFF#16

end Sys2Proof.Machine
end

