-- ==== Sys2Proof/Machine/State.lean ====
section
/-! DEFINITION. The state of the RZB4120 as plain data, block by block, and the state after device reset. Each structure names
the rule that lists its items. -/

namespace Sys2Proof.Machine

/-! ## Values -/

/-- The operating state (R183, section 12.1). -/
inductive OpState where
  | loading
  | configFault
  | syncing
  | running
  | silent
deriving DecidableEq, Repr

/-- A segment role (R98). -/
inductive Role where
  | disabled
  | listening
  | standby
  | designated
deriving DecidableEq, Repr

/-- A timer: stopped, or running with the time it was last loaded with (log 4). Its unit stands with each timer. -/
inductive Timer where
  | stopped
  | running (left : Nat)
deriving DecidableEq, Repr

/-- A place: the own card, or a station (R1). -/
inductive Place where
  | here
  | station (n : Station)
deriving DecidableEq, Repr

/-- A destination station field: one station, or ALL, sent as 63 (R51, R122). -/
inductive Dest where
  | station (n : Station)
  | all
deriving DecidableEq, Repr

/-! ## Location table and table walker -/

/-- The kind of an entry (R1). -/
inductive EntryKind where
  | dynamic
  | static
deriving DecidableEq, Repr

/-- An entry of the location table (R1). -/
structure Entry where
  eid : Eid
  zone : Zone
  place : Place
  kind : EntryKind
  age : Nat
deriving DecidableEq, Repr

/-- A bucket: four ways, each empty or holding an entry (R1, R2). -/
abbrev Bucket := Vector (Option Entry) 4

/-- The location table: 256 buckets (R2). -/
abbrev Table := Vector Bucket 256

/-- The scope of a management flush (R32). -/
inductive Scope where
  | allDynamic
  | place (p : Place)
  | zone (z : Zone)
  | everything
deriving DecidableEq, Repr

/-- A running walker job with what it carries (R23). -/
inductive Job where
  | internalFlush (places : List Place)
  | managementFlush (scope : Scope) (removed : Nat)
  | sweep
deriving DecidableEq, Repr

/-- The table walker (R23). The engine is BUSY when a job is held and IDLE when none is. -/
structure Walker where
  job : Option Job
  cursor : BucketNo
  /-- The pending place set, in the fixed order of `allPlaces` without repeats. -/
  pendingPlaces : List Place
  pendingFlush : Option Scope
  sweepPending : Bool
  /-- In seconds. -/
  sweepTimer : Timer
deriving DecidableEq, Repr

/-! ## Forwarding decisions under way (log 8) -/

/-- One of the 28 counters (R181), in the order of their numbers. -/
inductive Counter where
  | txData | txControl | collisions | excessDrops
  | rxGood | rxHeaderErr | rxFrameErr | rxFormatErr | jamsSeen
  | delivered | deliveryDrop | poolDrop | btqDrop | zoneDrop | standbyDrop | roleDiscard | unknownDrop | localFiltered
  | floodPruned
  | learnNew | learnMove | learnRefused | staticConflict | agedOut
  | linkMsgErr | linkMsgLost | linkProtoErr | eventLoss
deriving DecidableEq, Repr

/-- The header values of a card frame under decision (R41, R127). -/
structure CardFrame where
  dstEid : Eid
  srcEid : Eid
  zone : Zone
  urgent : Bool
  /-- Payload length. -/
  length : Nat
deriving DecidableEq, Repr

/-- What a card decision waits for (R41). -/
inductive CardStage where
  /-- The learn of step 4. -/
  | learn (f : CardFrame)
  /-- The lookup of step 6. -/
  | lookup (f : CardFrame)
  /-- The read of the peer table in step 6, after a hit on a station (R48). -/
  | peer (f : CardFrame) (n : Station)
  /-- The flood test of step 7, which reads the peer table (R50). -/
  | flood (f : CardFrame)
  /-- The hand-over of step 8, with the destination station. -/
  | handover (f : CardFrame) (dest : Dest)
  /-- Its turn to be discarded in the counter given (R39: decisions end in order). -/
  | discard (c : Counter)
deriving DecidableEq, Repr

/-- A card decision: its hold on a reserve buffer, none once cancelled (R71), and its stage. -/
structure CardDecision where
  hold : Option BufNo
  stage : CardStage
deriving DecidableEq, Repr

/-- A good DATA frame as the bus port holds it for its decision (R55). -/
structure DataFrame where
  source : Station
  dest : Dest
  urgent : Bool
  zone : Zone
  dstEid : Eid
  srcEid : Eid
  payload : List Byte
deriving DecidableEq, Repr

/-- What the tests of R57 to R59 leave a backplane decision to do after its learn. -/
inductive DeliveryPlan where
  /-- Not delivered. -/
  | letGo
  /-- A lookup decides (R59). -/
  | lookup
  /-- Handed over without a lookup. -/
  | deliver
deriving DecidableEq, Repr

/-- What a backplane decision waits for, with its frame. -/
inductive BackplaneStage where
  | learn (f : DataFrame) (plan : DeliveryPlan)
  | lookup (f : DataFrame)
  | handover (f : DataFrame)
  /-- Not delivered, and waiting for its turn to end (R39). -/
  | ended
deriving DecidableEq, Repr

/-- A backplane decision: whether the operating state has become LOADING since it started, after which its frame is not delivered
(R61), and what it waits for. -/
structure BackplaneDecision where
  overtaken : Bool
  stage : BackplaneStage
deriving DecidableEq, Repr

/-- The decisions under way, oldest first (R39). -/
structure Forwarding where
  card : List CardDecision
  backplane : List BackplaneDecision
deriving DecidableEq, Repr

/-! ## Buffer pool and queues -/

/-- The state of a reserve buffer (R66): OPEN, RECEIVING or HELD. -/
inductive ReserveState where
  | opened
  | receiving
  | held
deriving DecidableEq, Repr

/-- A buffer of the credit reserve (R66). -/
structure ReserveBuf where
  num : BufNo
  state : ReserveState
deriving DecidableEq, Repr

/-- A BTQ record (R51). -/
structure TxRecord where
  buf : BufNo
  dest : Dest
  urgent : Bool
  zone : Zone
  dstEid : Eid
  srcEid : Eid
  length : Nat
  attempts : Nat
deriving DecidableEq, Repr

/-- A delivery record (R60). -/
structure RxRecord where
  buf : BufNo
  dest : Dest
  urgent : Bool
  zone : Zone
  dstEid : Eid
  srcEid : Eid
  length : Nat
  source : Station
deriving DecidableEq, Repr

/-- The transmit slot (R74); `marked` is the mark of R78, release without retry. -/
inductive TxSlot where
  | empty
  | onMedium (r : TxRecord) (marked : Bool)
  | waiting (r : TxRecord)
deriving DecidableEq, Repr

/-- The buffer pool and queues (R63). -/
structure Pool where
  /-- Top first. -/
  free : List BufNo
  /-- Oldest first. -/
  reserve : List ReserveBuf
  urgentQ : List TxRecord
  normalQ : List TxRecord
  txSlot : TxSlot
  deliveryQ : List RxRecord
  deliverySlot : Option RxRecord
  /-- The payload bytes last written into each buffer; while it is filled, those written so far (R63, R149). -/
  contents : Vector (List Byte) 64
deriving DecidableEq, Repr

/-! ## Peer table and election unit -/

/-- A present peer entry (R81). -/
structure Peer where
  segment : Nat
  role : Role
  preference : Nat
  zones : ZoneSet
  interval : Nat
  missed : Nat
deriving DecidableEq, Repr

/-- The peer table (R81, R90). -/
structure PeerTable where
  peers : Vector (Option Peer) 32
  /-- In 10 ms. -/
  announceTimer : Timer
deriving DecidableEq, Repr

/-- The content of an ANNOUNCE (R95, R123). -/
structure Announce where
  segment : Nat
  role : Role
  preference : Nat
  zones : ZoneSet
  interval : Nat
deriving DecidableEq, Repr

/-- The content of a TAKEOVER: a segment and the previous designated, none for NONE (R99, R123). -/
structure Takeover where
  segment : Nat
  previous : Option Station
deriving DecidableEq, Repr

/-- The election unit (R99). -/
structure Election where
  role : Role
  /-- In 10 ms. -/
  listenTimer : Timer
  lastDesignated : Option Station
  /-- None is 0xFF. -/
  segmentDesignated : Option Station
  announceHolder : Option Announce
  takeoverHolder : Option Takeover
deriving DecidableEq, Repr

/-! ## Bus port -/

/-- The ladder position (R133). -/
inductive Ladder where
  | busy
  | gap (left : Nat)
  | rung (k : Fin 64)
deriving DecidableEq, Repr

/-- Whether the rotation pointer may be trusted (R133). -/
inductive Sync where
  | seeking
  | synced
deriving DecidableEq, Repr

/-- What the station is driving (R133). -/
inductive Transmitter where
  | off
  | frame
  | jam
deriving DecidableEq, Repr

/-- The medium as the bus port sees it (R132). -/
inductive Medium where
  | idle
  | carrier
  | collision
deriving DecidableEq, Repr

/-- An own control frame being sent (R138). -/
inductive ControlFrame where
  | announce (a : Announce)
  | takeover (t : Takeover)
deriving DecidableEq, Repr

/-- The control frame in flight with its drop mark (R133, R138). -/
structure InFlight where
  frame : ControlFrame
  dropMark : Bool
deriving DecidableEq, Repr

/-- The receiver's assembly area (R133): watching for a sync and for byte 8 of a frame, a frame whose good header has arrived, or
nothing until the medium goes idle (R124, R143; log 16). -/
inductive Assembly where
  | empty
  | frame (header : Vector Byte 9)
  | waitIdle
deriving DecidableEq, Repr

/-- The bus port (R133). -/
structure BusPort where
  pointer : Station
  ladder : Ladder
  sync : Sync
  quietCount : Nat
  transmitter : Transmitter
  inFlight : Option InFlight
  assembly : Assembly
  medium : Medium
deriving DecidableEq, Repr

/-! ## Events and counters -/

/-- The kind of an event (R128, R176). -/
inductive EventKind where
  | peerUp | peerDown | peerRestart | roleChange | localDisplaced | excessCollisions | intervalMismatch
  | dupStation | dualActive | configFault | linkProtocol
deriving DecidableEq, Repr

/-- A record of the event queue (R176). -/
structure EventRecord where
  kind : EventKind
  argument : BitVec 16
  sequence : Byte
  /-- 0..255. -/
  lost : Nat
deriving DecidableEq, Repr

/-- The alarm set (R177). -/
structure AlarmSet where
  dupStation : Bool
  dualActive : Bool
  configFault : Bool
  linkProtocol : Bool
deriving DecidableEq, Repr

/-- The event and counter unit (R177). -/
structure EventUnit where
  queue : List EventRecord
  alarms : AlarmSet
  sequence : Byte
  /-- 0..255. -/
  lost : Nat
  counters : Vector (BitVec 32) 28
deriving DecidableEq, Repr

/-! ## Card link port -/

/-- The card link's state (R148). -/
inductive LinkState where
  | down
  | up
deriving DecidableEq, Repr

/-- What a DATA_OUT being received writes into (R69, R155). -/
inductive DataOutMode where
  /-- The RECEIVING buffer. -/
  | into (buf : BufNo)
  /-- Nothing: it is stale. -/
  | stale
  /-- Nothing: no OPEN buffer was left. -/
  | overrun
deriving DecidableEq, Repr

/-- Where the receiver stands in the inbound stream, with the message so far: the bytes `got` and, in BODY, the header
(R148, R149; log 15). -/
inductive Receiver where
  | hunt
  /-- HEADER, with the header bytes gathered so far. -/
  | header (got : List Byte)
  /-- BODY of a DATA_OUT. -/
  | body (header : LinkHeader) (got : List Byte) (mode : DataOutMode)
  /-- BODY of a message of another type. -/
  | other (header : LinkHeader) (got : List Byte)
deriving DecidableEq, Repr

/-- A RESPONSE waiting or being sent; `fromEngine` tells the management engine's from a BUSY answer (R161, R165). -/
structure Response where
  tag : Byte
  body : List Byte
  fromEngine : Bool
deriving DecidableEq, Repr

/-- A message going out, as it was built at its choice (R159). -/
inductive OutMessage where
  | status (op : OpState) (role : Role) (segmentDesignated : Option Station) (restart : Bool)
  | credit (total : Byte)
  | response (r : Response)
  | event (r : EventRecord)
  /-- `straddled` once the link has gone DOWN since it began (R158). -/
  | dataIn (tag : Byte) (body : List Byte) (straddled : Bool)
  | idle
deriving DecidableEq, Repr

/-- The card link port (R148). -/
structure CardLink where
  link : LinkState
  /-- In milliseconds. -/
  holdTimer : Timer
  /-- In milliseconds; `running 0` once expired (log 22). -/
  idleTimer : Timer
  /-- The LINK_HOLD value in force, in 10 ms. -/
  linkHold : Nat
  receiver : Receiver
  grantTotal : Byte
  lastCredit : Byte
  expectedSeq : Byte
  acceptTotal : Byte
  deliveredTotal : Byte
  /-- STATUS pending with its restart flag. -/
  statusPending : Option Bool
  restartWindow : Bool
  responses : List Response
  tx : Option OutMessage
deriving DecidableEq, Repr

/-! ## Management engine -/

/-- A queued request (R163). -/
structure Request where
  tag : Byte
  body : List Byte
deriving DecidableEq, Repr

/-- The stage of the current request (R163). `taken` is the model's own, between the taking and the execution, with the operating
state standing at the taking, by which the request is judged (R164; log 12); `waitSend` says whether the end of the response starts
the warm restart (R173; log 14). -/
inductive Stage where
  | idle
  | taken (op : OpState)
  | waitWalk
  | waitSend (restart : Bool)
deriving DecidableEq, Repr

/-- The management engine (R163). -/
structure Management where
  queue : List Request
  current : Option Request
  stage : Stage
  discardMark : Bool
deriving DecidableEq, Repr

/-! ## Configuration loader -/

/-- The configuration loader (R183, R184). -/
structure Loader where
  opState : OpState
  station : Station
  config : Option Config
  /-- The image bytes read so far, from byte 0 on. -/
  image : List Byte
deriving DecidableEq, Repr

/-! ## The whole part -/

/-- The station, and the commands that wait. -/
structure State where
  /-- The RESET pin is asserted (R183). -/
  resetAsserted : Bool
  cf : Loader
  lt : Table
  tw : Walker
  fe : Forwarding
  bq : Pool
  pt : PeerTable
  eu : Election
  bp : BusPort
  cl : CardLink
  me : Management
  ec : EventUnit
  /-- Commands waiting, first in first out. -/
  pending : List Instr
deriving DecidableEq, Repr

/-- Why the part stops: the spec names no event that stops it, so there is no fault. Nobody raises one; safe. -/
inductive Fault where
deriving DecidableEq, Repr

/-- Why a command has no meaning. -/
inductive Refusal where
  /-- The command's arm of `exec` has no meaning yet; raised by `exec` alone, and by no arm now. Safe: nothing follows from it. -/
  | notModelled (mnemonic : String)
deriving DecidableEq, Repr

/-! ## Values after device reset -/

/-- The location table with every way empty (R4). -/
def emptyTable : Table := Vector.replicate 256 (Vector.replicate 4 none)

/-- The walker after device reset (R24). -/
def Walker.reset : Walker := ⟨none, 0, [], none, false, .stopped⟩

/-- The pool after device reset: buffer 0 on top of the stack down to 63 (R64). -/
def Pool.reset : Pool where
  free := List.finRange 64
  reserve := []
  urgentQ := []
  normalQ := []
  txSlot := .empty
  deliveryQ := []
  deliverySlot := none
  contents := Vector.replicate 64 []

/-- The peer table after device reset (R82). -/
def PeerTable.reset : PeerTable := ⟨Vector.replicate 32 none, .stopped⟩

/-- The election unit after device reset (R100). -/
def Election.reset : Election := ⟨.disabled, .stopped, none, none, none, none⟩

/-- The bus port after device reset (R133; the medium: log 5). -/
def BusPort.reset : BusPort where
  pointer := 31
  ladder := .busy
  sync := .seeking
  quietCount := 0
  transmitter := .off
  inFlight := none
  assembly := .empty
  medium := .carrier

/-- The empty alarm set (R177). -/
def AlarmSet.none : AlarmSet := ⟨false, false, false, false⟩

/-- The event and counter unit after device reset (R177). -/
def EventUnit.reset : EventUnit := ⟨[], .none, 0, 0, Vector.replicate 28 0⟩

/-- The card link port after device reset (R148). -/
def CardLink.reset : CardLink where
  link := .down
  holdTimer := .stopped
  idleTimer := .stopped
  linkHold := defaultLinkHold
  receiver := .hunt
  grantTotal := 0
  lastCredit := 0
  expectedSeq := 0
  acceptTotal := 0
  deliveredTotal := 0
  statusPending := none
  restartWindow := false
  responses := []
  tx := none

/-- The management engine after device reset (R163). -/
def Management.reset : Management := ⟨[], none, .idle, false⟩

/-- The part right after device reset: RESET released, LOADING, the straps read as 0 (R183; log 1). -/
def State.reset : State where
  resetAsserted := false
  cf := ⟨.loading, 0, none, []⟩
  lt := emptyTable
  tw := .reset
  fe := ⟨[], []⟩
  bq := .reset
  pt := .reset
  eu := .reset
  bp := .reset
  cl := .reset
  me := .reset
  ec := .reset
  pending := []

end Sys2Proof.Machine
end

