-- ==== Sys2Proof/Machine/Flags.lean ====
section
/-! DEFINITION. The event and counter unit: counters, notifications, alarms (chapter 11; codes of R128). -/

namespace Sys2Proof.Machine

/-- A counter's number for READ_COUNTERS (R181). -/
def Counter.num : Counter → Fin 28
  | .txData => 0 | .txControl => 1 | .collisions => 2 | .excessDrops => 3
  | .rxGood => 4 | .rxHeaderErr => 5 | .rxFrameErr => 6 | .rxFormatErr => 7 | .jamsSeen => 8
  | .delivered => 9 | .deliveryDrop => 10 | .poolDrop => 11 | .btqDrop => 12 | .zoneDrop => 13 | .standbyDrop => 14
  | .roleDiscard => 15 | .unknownDrop => 16 | .localFiltered => 17 | .floodPruned => 18
  | .learnNew => 19 | .learnMove => 20 | .learnRefused => 21 | .staticConflict => 22 | .agedOut => 23
  | .linkMsgErr => 24 | .linkMsgLost => 25 | .linkProtoErr => 26 | .eventLoss => 27

/-- The kind's code (R128). -/
def EventKind.code : EventKind → Byte
  | .peerUp => 0x01#8 | .peerDown => 0x02#8 | .peerRestart => 0x03#8 | .roleChange => 0x04#8
  | .localDisplaced => 0x05#8 | .excessCollisions => 0x06#8 | .intervalMismatch => 0x07#8
  | .dupStation => 0x81#8 | .dualActive => 0x82#8 | .configFault => 0x83#8 | .linkProtocol => 0x84#8

/-- The kind is an alarm, not a notification (R128, R176). -/
def EventKind.isAlarm : EventKind → Bool
  | .dupStation | .dualActive | .configFault | .linkProtocol => true
  | .peerUp | .peerDown | .peerRestart | .roleChange | .localDisplaced | .excessCollisions | .intervalMismatch => false

/-- The alarm a code names in ACK_EVENT (R172). -/
def alarmOfCode (c : Byte) : Option EventKind :=
  [.dupStation, .dualActive, .configFault, .linkProtocol].find? fun k => k.code == c

/-- The alarm stands in the alarm set. -/
def AlarmSet.has (a : AlarmSet) : EventKind → Bool
  | .dupStation => a.dupStation
  | .dualActive => a.dualActive
  | .configFault => a.configFault
  | .linkProtocol => a.linkProtocol
  | _ => false

/-- The alarm set with one alarm set or cleared. -/
def AlarmSet.put (a : AlarmSet) (k : EventKind) (on : Bool) : AlarmSet :=
  match k with
  | .dupStation => { a with dupStation := on }
  | .dualActive => { a with dualActive := on }
  | .configFault => { a with configFault := on }
  | .linkProtocol => { a with linkProtocol := on }
  | _ => a

/-- Byte 15 of the status record (R130). -/
def AlarmSet.byte (a : AlarmSet) : Byte :=
  byteOf (a.dupStation.toNat + 2 * a.dualActive.toNat + 4 * a.configFault.toNat + 8 * a.linkProtocol.toNat)

/-- A lost count plus `n`, saturating at 255 (R178, R179). -/
def lostAdd (lost n : Nat) : Nat := min 255 (lost + n)

/-- Add `n` to a counter, modulo 2^32 (R181). -/
def EventUnit.countN (e : EventUnit) (c : Counter) (n : Nat) : EventUnit :=
  { e with counters := e.counters.set c.num (e.counters[c.num] + BitVec.ofNat 32 n) }

/-- Step a counter by 1 (R181). -/
def EventUnit.count (e : EventUnit) (c : Counter) : EventUnit := e.countN c 1

/-- Put a record at the tail with the sequence and the lost count as they stand; the sequence steps and the lost count becomes 0
(R178). -/
def EventUnit.append (e : EventUnit) (kind : EventKind) (argument : BitVec 16) : EventUnit :=
  { e with queue := e.queue ++ [⟨kind, argument, e.sequence, e.lost⟩], sequence := e.sequence + 1, lost := 0 }

/-- Queue a notification, or drop it when the queue is full (R178). -/
def EventUnit.notify (e : EventUnit) (kind : EventKind) (argument : BitVec 16) : EventUnit :=
  if e.queue.length < eventDepth then e.append kind argument
  else { e.count .eventLoss with lost := lostAdd e.lost 1 }

/-- The oldest notification of the queue, and the queue without it. -/
def oldestNotification : List EventRecord → Option (EventRecord × List EventRecord)
  | [] => none
  | r :: rs => if r.kind.isAlarm then (oldestNotification rs).map fun (x, q) => (x, r :: q) else some (r, rs)

/-- Raise an alarm: nothing when it is set; else it is set and a record queued, the oldest notification making room in a full
queue (R179). A full queue without a notification, which no run reaches, takes no record (log 23). -/
def EventUnit.raiseAlarm (e : EventUnit) (kind : EventKind) (argument : BitVec 16) : EventUnit :=
  if e.alarms.has kind then e
  else
    let e := { e with alarms := e.alarms.put kind true }
    if e.queue.length < eventDepth then e.append kind argument
    else match oldestNotification e.queue with
      | some (r, q) =>
        { e.count .eventLoss with queue := q, lost := lostAdd (lostAdd e.lost 1) r.lost }.append kind argument
      | none => e

/-- Acknowledge an alarm: one that is set is cleared and its unsent record leaves the queue, its lost count added on; one that
is not set changes nothing (R172, R180). -/
def EventUnit.acknowledge (e : EventUnit) (kind : EventKind) : EventUnit :=
  if e.alarms.has kind then
    { e with
      alarms := e.alarms.put kind false
      queue := e.queue.filter fun r => r.kind != kind
      lost := ((e.queue.filter fun r => r.kind == kind).map (·.lost)).foldl lostAdd e.lost }
  else e

/-- The unit's warm-restart values: queue and alarms cleared, sequence and lost count 0, counters kept (R177). -/
def EventUnit.warmRestart (e : EventUnit) : EventUnit := { EventUnit.reset with counters := e.counters }

/-- Step a counter of the part by `n`. -/
def State.countN (s : State) (c : Counter) (n : Nat) : State := { s with ec := s.ec.countN c n }

/-- Step a counter of the part. -/
def State.count (s : State) (c : Counter) : State := { s with ec := s.ec.count c }

/-- Raise a notification. -/
def State.notify (s : State) (kind : EventKind) (argument : BitVec 16) : State := { s with ec := s.ec.notify kind argument }

/-- Raise an alarm. -/
def State.raiseAlarm (s : State) (kind : EventKind) (argument : BitVec 16) : State :=
  { s with ec := s.ec.raiseAlarm kind argument }

end Sys2Proof.Machine
end

