-- ==== Sys2Proof/Machine/LinkFormat.lean ====
section
/-! DEFINITION. The card link message as it is judged on receipt (R125, R126, R149): which bytes are a good header, a good
message, and which good messages are unusable. -/

namespace Sys2Proof.Machine

/-- The sync byte of a card link message (R125). -/
def linkSync : Byte := 0xA5#8

/-- Type code of DATA_OUT (R125). -/
def typeDataOut : Byte := 0x10#8
/-- Type code of DATA_IN (R125). -/
def typeDataIn : Byte := 0x11#8
/-- Type code of REQUEST (R125). -/
def typeRequest : Byte := 0x20#8
/-- Type code of RESPONSE (R125). -/
def typeResponse : Byte := 0x21#8
/-- Type code of EVENT (R125). -/
def typeEvent : Byte := 0x30#8
/-- Type code of CREDIT (R125). -/
def typeCredit : Byte := 0x40#8
/-- Type code of RECEIVE_READY (R125). -/
def typeReceiveReady : Byte := 0x41#8
/-- Type code of IDLE (R125). -/
def typeIdle : Byte := 0x50#8
/-- Type code of STATUS (R125). -/
def typeStatus : Byte := 0x51#8

/-- The largest body length of a good header (R126). -/
def linkBodyLimit : Nat := 270

/-- The header the six bytes make, when it is good: the sync, the CRC-8 over bytes 1..4, a length of 270 or less (R126). -/
def judgeLinkHeader : List Byte → Option LinkHeader
  | [sync, type, tag, lenHi, lenLo, check] =>
    if h : (word16 lenHi lenLo).toNat < linkBodyLimit + 1 then
      if sync = linkSync ∧ crc8 [type, tag, lenHi, lenLo] = check then some ⟨type, tag, ⟨_, h⟩⟩ else none
    else none
  | _ => none

/-- These bytes are a header that is not good: a first byte that is no sync, or six bytes from a sync on that `judgeLinkHeader`
rejects (R126, R149). -/
def isRejectedHeader : List Byte → Bool
  | [b] => b != linkSync
  | bytes => bytes.head? == some linkSync && bytes.length == 6 && (judgeLinkHeader bytes).isNone

/-- The six bytes of a good header (R125, R126). -/
def linkHeaderBytes (h : LinkHeader) : List Byte :=
  let n := BitVec.ofNat 16 h.length
  [linkSync, h.type, h.tag, hiByte n, loByte n, crc8 [h.type, h.tag, hiByte n, loByte n]]

/-- A good message of this type and body length is discarded (R126). -/
def isUnusable (type : Byte) (length : Nat) : Bool :=
  if type = typeDataOut ∨ type = typeRequest then false
  else if type = typeReceiveReady then length != 1
  else if type = typeIdle then length != 0
  else true

/-- The command that the end of a received message is, given its good header, its body and its message check: the CRC-16 is
over byte 1 through the last body byte (R125, R126, R150). -/
def messageCommand (header body check : List Byte) : Option Instr :=
  match judgeLinkHeader header with
  | none => none
  | some h =>
    if body.length ≠ h.length.val then none
    else
      let crc := crc16 (header.drop 1 ++ body)
      if check ≠ [hiByte crc, loByte crc] then some .messageBadCheck
      else if h.type = typeDataOut then some (.dataOut body)
      else if h.type = typeRequest then some (.request h.tag body)
      else if isUnusable h.type h.length then some (.unusableMessage h.type h.length)
      else match body with
        | [total] => some (.receiveReady total)
        | _ => some .idle

/-- The command that the bytes at the header's place are, with the body bytes `arrived` behind them: a rejected header, or a good
one of any type (R149; log 15). -/
def headerCommand (bytes arrived : List Byte) : Option Instr :=
  match judgeLinkHeader bytes with
  | none => if isRejectedHeader bytes then some (.linkHeaderRejected bytes) else none
  | some h => some (.dataOutHeader h arrived)

end Sys2Proof.Machine
end

