-- ==== Sys2Proof/Machine/Operands.lean ====
section
/-! DEFINITION. The byte layouts of chapter 7: codes, backplane frames, card link messages, request arguments, records, and the
configuration image. -/

namespace Sys2Proof.Machine

/-! ## Codes (R120) -/

/-- The role's code. -/
def Role.code : Role → Byte
  | .disabled => 0 | .listening => 1 | .standby => 2 | .designated => 3

/-- The role a code stands for. -/
def roleOfCode (b : Byte) : Option Role :=
  match b.toNat with
  | 0 => some .disabled | 1 => some .listening | 2 => some .standby | 3 => some .designated | _ => none

/-- The operating state's code. -/
def OpState.code : OpState → Byte
  | .loading => 0 | .configFault => 1 | .syncing => 2 | .running => 3 | .silent => 4

/-- The place's code: LOCAL 0x40, a station its number. -/
def Place.code : Place → Byte
  | .here => 0x40#8
  | .station n => byteOf n

/-- The station a byte names, when it is 0..31. -/
def stationOfByte (b : Byte) : Option Station := if h : b.toNat < 32 then some ⟨b.toNat, h⟩ else none

/-- The zone a byte names, when it is 0..7. -/
def zoneOfByte (b : Byte) : Option Zone := if h : b.toNat < 8 then some ⟨b.toNat, h⟩ else none

/-- The place a code stands for. -/
def placeOfCode (b : Byte) : Option Place := if b = 0x40#8 then some .here else (stationOfByte b).map .station

/-- The kind's code. -/
def EntryKind.code : EntryKind → Byte
  | .dynamic => 0 | .static => 1

/-- A station, or NONE as 0xFF. -/
def stationOrNone : Option Station → Byte
  | some n => byteOf n
  | none => 0xFF#8

/-- The destination field: a station's number, or 63 for ALL. -/
def Dest.code : Dest → Byte
  | .station n => byteOf n
  | .all => 63#8

/-- A boolean as 0 or 1. -/
def boolByte (b : Bool) : Byte := byteOf b.toNat

/-- The peer state's code, read from the missed count: ALIVE 0, SUSPECT 1 (R81). -/
def Peer.stateCode (p : Peer) : Byte := if p.missed ≤ 1 then 0 else 1

/-- Every place in a fixed order, LOCAL first; place sets are kept as parts of it. -/
def allPlaces : List Place := .here :: allStations.map .station

/-- The union of two place sets, in the fixed order and without repeats (R25). -/
def placeUnion (a b : List Place) : List Place := allPlaces.filter fun p => a.contains p || b.contains p

/-! ## Backplane frames (R122, R123) -/

/-- Bits 7..6 of byte 0: the kind. -/
def frameKind (h : Vector Byte 9) : Nat := (h[0].extractLsb' 6 2).toNat

/-- Bit 5 of byte 0: urgent. -/
def frameUrgent (h : Vector Byte 9) : Bool := h[0].getLsbD 5

/-- Bits 4..2 of byte 0: the zone. -/
def frameZone (h : Vector Byte 9) : Zone := (h[0].extractLsb' 2 3).toFin

/-- The length: bits 1..0 of byte 0, then byte 1. -/
def frameLength (h : Vector Byte 9) : Nat := (h[0].extractLsb' 0 2).toNat * 256 + h[1].toNat

/-- Bits 4..0 of byte 2: the source station. -/
def frameSource (h : Vector Byte 9) : Station := (h[2].extractLsb' 0 5).toFin

/-- Bits 5..0 of byte 3: the destination station field, 0..63. -/
def frameDestField (h : Vector Byte 9) : Nat := (h[3].extractLsb' 0 6).toNat

/-- The destination station field as a station or ALL; 32..62 are neither (R124). -/
def frameDest (h : Vector Byte 9) : Option Dest :=
  if hs : frameDestField h < 32 then some (.station ⟨frameDestField h, hs⟩)
  else if frameDestField h = 63 then some .all else none

/-- Bytes 4..5: the destination EID. -/
def frameDstEid (h : Vector Byte 9) : Eid := word16 h[4] h[5]

/-- Bytes 6..7: the source EID. -/
def frameSrcEid (h : Vector Byte 9) : Eid := word16 h[6] h[7]

/-- The header check passes: the CRC-8 over bytes 0..7 equals byte 8 (R122, R124). -/
def headerCheckPasses (h : Vector Byte 9) : Bool := crc8 (h.toList.take 8) == h[8]

/-- The frame check passes over the header and the length + 2 bytes that follow it, all of them received (R122, R124). -/
def frameCheckPasses (h : Vector Byte 9) (rest : List Byte) : Bool :=
  let crc := crc16 (h.toList ++ rest.take (frameLength h))
  decide (frameLength h + 2 ≤ rest.length) &&
    (rest.drop (frameLength h)).take 2 == [hiByte crc, loByte crc]

/-- The content of an ANNOUNCE's six payload bytes, when every value lies in its range; the spare byte is not examined (R83,
R123). -/
def announceOfBody : List Byte → Option Announce
  | [segment, role, preference, zones, interval, _] =>
    match roleOfCode role with
    | some r =>
      if segment.toNat ≤ 63 ∧ preference.toNat ≤ 15 ∧ zones ≠ 0 ∧ 1 ≤ interval.toNat ∧ interval.toNat ≤ 100 then
        some ⟨segment.toNat, r, preference.toNat, zones, interval.toNat⟩
      else none
    | none => none
  | _ => none

/-- The content of a TAKEOVER's two payload bytes, when every value lies in its range (R83, R123). -/
def takeoverOfBody : List Byte → Option Takeover
  | [segment, previous] =>
    if segment.toNat ≤ 63 then
      if previous = 0xFF#8 then some ⟨segment.toNat, none⟩
      else (stationOfByte previous).map fun p => ⟨segment.toNat, some p⟩
    else none
  | _ => none

/-- What a received frame is classed as (R124). -/
inductive FrameClass where
  | frameError
  | formatError
  | goodData (f : DataFrame)
  | goodAnnounce (source : Station) (a : Announce)
  | goodTakeover (source : Station) (t : Takeover)
deriving DecidableEq, Repr

/-- The content of a DATA frame whose checks have passed, when its format is right (R124 step 4). Payload beyond the 256th byte
is never stored, since such a frame is a format error. -/
def dataOfFrame (h : Vector Byte 9) (payload : List Byte) : Option DataFrame :=
  match frameDest h with
  | some dest =>
    if 1 ≤ frameLength h ∧ frameLength h ≤ payloadLimit ∧ frameSrcEid h ≠ broadcast then
      some ⟨frameSource h, dest, frameUrgent h, frameZone h, frameDstEid h, frameSrcEid h, payload⟩
    else none
  | none => none

/-- Steps 3 to 5 of R124 for a frame with a good header that ends after the bytes `rest`. -/
def classify (h : Vector Byte 9) (rest : List Byte) : FrameClass :=
  if frameCheckPasses h rest then
    let payload := rest.take (frameLength h)
    match frameKind h with
    | 0 => match dataOfFrame h payload with
      | some f => .goodData f
      | none => .formatError
    | 1 => match announceOfBody payload with
      | some a => .goodAnnounce (frameSource h) a
      | none => .formatError
    | 2 => match takeoverOfBody payload with
      | some t => .goodTakeover (frameSource h) t
      | none => .formatError
    | _ => .formatError
  else .frameError

/-- The bytes of a frame after its sync: header with the length field, header check, payload, frame check (R122). -/
def buildFrame (kind : Nat) (urgent : Bool) (zone : Zone) (source : Station) (dest : Dest) (dstEid srcEid : Eid)
    (length : Nat) (payload : List Byte) : List Byte :=
  let byte0 := byteOf (kind * 64 + urgent.toNat * 32 + zone * 4 + length / 256 % 4)
  let header := [byte0, byteOf length, byteOf source, dest.code,
    hiByte dstEid, loByte dstEid, hiByte srcEid, loByte srcEid]
  let covered := header ++ [crc8 header] ++ payload
  covered ++ [hiByte (crc16 covered), loByte (crc16 covered)]

/-- The payload of an own ANNOUNCE (R123). -/
def Announce.body (a : Announce) : List Byte :=
  [byteOf a.segment, a.role.code, byteOf a.preference, a.zones, byteOf a.interval, 0x00#8]

/-- The payload of an own TAKEOVER (R123). -/
def Takeover.body (t : Takeover) : List Byte := [byteOf t.segment, stationOrNone t.previous]

/-- An own control frame's bytes: urgent, zone 0, to ALL, both EIDs 0xFFFF (R95, R99, R122). -/
def controlFrameBytes (own : Station) : ControlFrame → List Byte
  | .announce a => buildFrame 1 true 0 own .all broadcast broadcast 6 a.body
  | .takeover t => buildFrame 2 true 0 own .all broadcast broadcast 2 t.body

/-- An own data frame's bytes: every field, the length among them, from its record, and the payload from its buffer (R122, R139). -/
def dataFrameBytes (own : Station) (r : TxRecord) (payload : List Byte) : List Byte :=
  buildFrame 0 r.urgent r.zone own r.dest r.dstEid r.srcEid r.length payload

/-- The sync pattern that precedes every frame, sent from its most significant bit on (R122). -/
def syncPattern : BitVec 16 := 0b1010101010101011#16

/-- What goes on the medium for a frame: one slot of sync, then its bytes (R122, R132). -/
def withSync (frame : List Byte) : List Byte := hiByte syncPattern :: loByte syncPattern :: frame

/-- The sync and the bytes of the frame the transmitter is sending, none when it sends no frame (R122, R138, R139). -/
def State.frameBeingSent (s : State) : Option (List Byte) :=
  if s.bp.transmitter = .frame then
    match s.bp.inFlight, s.bq.txSlot with
    | some c, _ => some (withSync (controlFrameBytes s.cf.station c.frame))
    | none, .onMedium r _ => some (withSync (dataFrameBytes s.cf.station r s.bq.contents[r.buf]))
    | none, _ => none
  else none

/-! ## Card link messages (R125, R127, R128, R130) -/

/-- The bytes of a card link message (R125). -/
def buildMessage (type tag : Byte) (body : List Byte) : List Byte :=
  let n := BitVec.ofNat 16 body.length
  let header := [type, tag, hiByte n, loByte n]
  let covered := header ++ [crc8 header] ++ body
  linkSync :: (covered ++ [hiByte (crc16 covered), loByte (crc16 covered)])

/-- The body of a DATA_IN, from the delivery record and its buffer (R127). -/
def dataInBody (r : RxRecord) (payload : List Byte) : List Byte :=
  [hiByte r.dstEid, loByte r.dstEid, hiByte r.srcEid, loByte r.srcEid, byteOf r.zone, boolByte r.urgent,
    byteOf r.source, r.dest.code] ++ payload

/-- The bytes of the message going out (R125, R127, R128, R130). -/
def OutMessage.bytes : OutMessage → List Byte
  | .status op role seg restart =>
    buildMessage typeStatus 0 [op.code, role.code, stationOrNone seg, boolByte restart]
  | .credit total => buildMessage typeCredit 0 [total]
  | .response r => buildMessage typeResponse r.tag r.body
  | .event r =>
    buildMessage typeEvent 0 [r.kind.code, hiByte r.argument, loByte r.argument, r.sequence, byteOf r.lost]
  | .dataIn tag body _ => buildMessage typeDataIn tag body
  | .idle => buildMessage typeIdle 0 []

/-- The fields of a DATA_OUT body, when they are as R43 wants them: 1 to 256 payload bytes, a zone, urgent 0 or 1, and a source
EID other than 0xFFFF (R43, R127). -/
def cardFrameOfBody : List Byte → Option CardFrame
  | dstHi :: dstLo :: srcHi :: srcLo :: zone :: urgent :: payload =>
    match zoneOfByte zone with
    | some z =>
      if 1 ≤ payload.length ∧ payload.length ≤ payloadLimit ∧ urgent.toNat ≤ 1 ∧ word16 srcHi srcLo ≠ broadcast then
        some ⟨word16 dstHi dstLo, word16 srcHi srcLo, z, urgent = 1#8, payload.length⟩
      else none
    | none => none
  | _ => none

/-- The payload of a DATA_OUT body as it is stored: bytes 6 on, to the 256th payload byte (R127, R149). -/
def storedPayload (body : List Byte) : List Byte := (body.drop 6).take payloadLimit

/-! ## Requests (R129) -/

/-- The ten requests. -/
inductive ReqCode where
  | readEntry | readBucket | addStatic | remove | flush | readPeer | readStatus | readCounters | ackEvent | restart
deriving DecidableEq, Repr

/-- The request's code. -/
def ReqCode.byte : ReqCode → Byte
  | .readEntry => 0x01#8 | .readBucket => 0x02#8 | .addStatic => 0x03#8 | .remove => 0x04#8 | .flush => 0x05#8
  | .readPeer => 0x06#8 | .readStatus => 0x07#8 | .readCounters => 0x08#8 | .ackEvent => 0x09#8 | .restart => 0x0A#8

/-- The body length of a request. -/
def ReqCode.bodyLength : ReqCode → Nat
  | .readEntry => 3 | .readBucket => 2 | .addStatic => 5 | .remove => 3 | .flush => 3
  | .readPeer => 2 | .readStatus => 1 | .readCounters => 4 | .ackEvent => 2 | .restart => 1

/-- The ten requests in the order of their codes. -/
def allRequests : List ReqCode :=
  [.readEntry, .readBucket, .addStatic, .remove, .flush, .readPeer, .readStatus, .readCounters, .ackEvent, .restart]

/-- The request a body has the form of: a listed code with its own body length; none is BAD_REQUEST (R129, R165). -/
def requestForm : List Byte → Option ReqCode
  | [] => none
  | code :: args => allRequests.find? fun c => c.byte == code && c.bodyLength == args.length + 1

/-- The status of a RESPONSE (R130). -/
inductive Status where
  | ok | notFound | tableFull | badArgument | badRequest | busy | notAllowed
deriving DecidableEq, Repr

/-- The status's code (R130). -/
def Status.code : Status → Byte
  | .ok => 0 | .notFound => 1 | .tableFull => 2 | .badArgument => 3 | .badRequest => 4 | .busy => 5 | .notAllowed => 6

/-- A RESPONSE body: the status, the request code answered (0x00 for an empty body), and the results, which follow OK only
(R130). -/
def responseBody (status : Status) (request : List Byte) (results : List Byte) : List Byte :=
  status.code :: request.headD 0 :: (if status = .ok then results else [])

/-- The entry record: way, EID, zone, place, kind, age (R130). -/
def entryRecord (w : Way) (x : Entry) : List Byte :=
  [byteOf w, hiByte x.eid, loByte x.eid, byteOf x.zone, x.place.code, x.kind.code, byteOf x.age]

/-- The peer record: station, segment, role, preference, zones, interval, missed count, state (R130). -/
def peerRecord (n : Station) (p : Peer) : List Byte :=
  [byteOf n, byteOf p.segment, p.role.code, byteOf p.preference, p.zones, byteOf p.interval, byteOf p.missed, p.stateCode]

/-- A counter's value as four bytes, the most significant first (R120, R130). -/
def counterBytes (c : BitVec 32) : List Byte :=
  [c.extractLsb' 24 8, c.extractLsb' 16 8, c.extractLsb' 8 8, c.extractLsb' 0 8]

/-- The scope a FLUSH names, when its arguments are in range for the own station `own` (R129, R169). -/
def scopeOfArgs (own : Station) (scope value : Byte) : Option Scope :=
  match scope.toNat with
  | 0 => some .allDynamic
  | 1 => match placeOfCode value with
    | some p => if p = .station own then none else some (.place p)
    | none => none
  | 2 => (zoneOfByte value).map .zone
  | 3 => some .everything
  | _ => none

/-! ## The configuration image (R131, R185) -/

/-- A static record of the image. -/
structure StaticRecord where
  eid : Eid
  zone : Zone
  place : Place
deriving DecidableEq, Repr

/-- The bucket of an EID: its high byte exclusive-ORed with its low byte (R2). -/
def bucketOf (e : Eid) : BucketNo := (hiByte e ^^^ loByte e).toFin

/-- Byte `i` of the image. -/
def imageByte (image : List Byte) (i : Nat) : Byte := image.getD i 0

/-- The static count n, byte 13 (R131). -/
def staticCount (image : List Byte) : Nat := (imageByte image 13).toNat

/-- Bytes of the fixed part (R184). -/
def fixedPart : Nat := 14

/-- The length of an image with `n` static records (R131). -/
def imageLength (n : Nat) : Nat := 16 + 4 * n

/-- The byte at offset `i`, 2..12, lies in its range (R131, check 5 of R185). -/
def fieldInRange (i : Nat) (b : Byte) : Bool :=
  match i with
  | 2 => b.toNat ≤ 63
  | 3 => b.toNat ≤ 15
  | 4 => b != 0
  | 5 => 1 ≤ b.toNat && b.toNat ≤ 100
  | 6 => 5 ≤ b.toNat
  | 7 => true
  | 8 => 1 ≤ b.toNat && b.toNat ≤ 7
  | 9 => b.toNat ≤ 7
  | 10 => 1 ≤ b.toNat && b.toNat ≤ 16
  | _ => b == 0

/-- The sum of the image's 16-bit words, modulo 65536, the lower-numbered byte of each pair high (R131). -/
def wordSum : List Byte → BitVec 16
  | hi :: lo :: rest => word16 hi lo + wordSum rest
  | _ => 0

/-- The four bytes of static record `i` as they stand: EID, zone byte, place byte (R131). -/
def rawRecord (image : List Byte) (i : Nat) : Eid × Byte × Byte :=
  (word16 (imageByte image (14 + 4 * i)) (imageByte image (15 + 4 * i)), imageByte image (16 + 4 * i),
    imageByte image (17 + 4 * i))

/-- A static record against itself and the records before it: the record, or the reason 5, 6 or 7 (check 6 of R185). -/
def checkRecord (own : Station) (before : List StaticRecord) (raw : Eid × Byte × Byte) : Except Nat StaticRecord :=
  match zoneOfByte raw.2.1, placeOfCode raw.2.2 with
  | some z, some p =>
    if raw.1 = broadcast ∨ p = .station own then .error 5
    else if before.any (fun r => r.eid == raw.1) then .error 6
    else if 4 ≤ before.countP (fun r => bucketOf r.eid == bucketOf raw.1) then .error 7
    else .ok ⟨raw.1, z, p⟩
  | _, _ => .error 5

/-- Check 6 over the records from index `i` on: the records in order, or reason and index of the first failing one (R185). -/
def checkRecords (own : Station) (i : Nat) (before : List StaticRecord) :
    List (Eid × Byte × Byte) → Except (Nat × Nat) (List StaticRecord)
  | [] => .ok before
  | raw :: rest =>
    match checkRecord own before raw with
    | .error reason => .error (reason, i)
    | .ok r => checkRecords own (i + 1) (before ++ [r]) rest

/-- Checks 1 and 2, made when the fixed part has been read: the reason and low byte of a rejection (R184, R185). -/
def checkFixedPart (image : List Byte) : Option (Nat × Nat) :=
  if imageByte image 0 ≠ 0xC4#8 then some (2, 0)
  else if 32 < staticCount image ∨ (imageByte image 1).toNat ≠ imageLength (staticCount image) then some (3, 0)
  else none

/-- The configured items of an image that has passed its checks (R131). -/
def configOfImage (image : List Byte) : Config where
  segment := (imageByte image 2).toNat
  preference := (imageByte image 3).toNat
  zones := imageByte image 4
  interval := (imageByte image 5).toNat
  linkHold := (imageByte image 6).toNat
  sweepPeriod := (imageByte image 7).toNat
  ageLimit := (imageByte image 8).toNat
  learn := (imageByte image 9).getLsbD 0
  dropUnknown := (imageByte image 9).getLsbD 1
  preempt := (imageByte image 9).getLsbD 2
  localCredits := (imageByte image 10).toNat

/-- Checks 4 to 6 on the whole image: the configuration and the static records, or the reason and low byte of the rejection
(R185, codes of R128). -/
def checkImage (own : Station) (image : List Byte) : Except (Nat × Nat) (Config × List StaticRecord) :=
  if wordSum image ≠ 0 then .error (1, 0)
  else match (List.range' 2 11).find? fun i => !fieldInRange i (imageByte image i) with
    | some i => .error (4, i)
    | none =>
      match checkRecords own 0 [] ((List.range (staticCount image)).map (rawRecord image)) with
      | .error e => .error e
      | .ok records => .ok (configOfImage image, records)

end Sys2Proof.Machine
end

