-- ==== Sys2Proof/Machine/TableOps.lean ====
section
/-! DEFINITION. Claims on one bucket of the location table (chapter 1). Each is a function of the bucket alone. -/

namespace Sys2Proof.Machine

/-- The four ways in rising order. -/
def allWays : List Way := [0, 1, 2, 3]

/-- The way that holds the entry for `e` (R2, R7). -/
def findWay (b : Bucket) (e : Eid) : Option Way := allWays.find? fun w => b[w].any fun x => x.eid == e

/-- The lowest-numbered empty way (R2). -/
def emptyWay (b : Bucket) : Option Way := allWays.find? fun w => b[w].isNone

/-- The age of the way's entry when it is DYNAMIC. -/
def dynamicAge (b : Bucket) (w : Way) : Option Nat :=
  match b[w] with
  | some x => if x.kind = .dynamic then some x.age else none
  | none => none

/-- The better victim of a best so far and the next way: a larger age wins, the lower way keeps a tie (R10). -/
def olderVictim (b : Bucket) (best : Option (Way × Nat)) (w : Way) : Option (Way × Nat) :=
  match dynamicAge b w, best with
  | some a, some (_, a') => if a' < a then some (w, a) else best
  | some a, none => some (w, a)
  | none, _ => best

/-- The way of the DYNAMIC entry with the largest age, the lowest way on a tie (R10). -/
def victimWay (b : Bucket) : Option Way := (allWays.foldl (olderVictim b) none).map (·.1)

/-- Write an entry into a way. -/
def putEntry (b : Bucket) (w : Way) (x : Entry) : Bucket := b.set w (some x)

/-- Leave a way empty. -/
def clearWay (b : Bucket) (w : Way) : Bucket := b.set w none

/-- The answer of a lookup (R7): the entry held for `e`. -/
def lookupEntry (b : Bucket) (e : Eid) : Option Entry :=
  match findWay b e with
  | some w => b[w]
  | none => none

/-- The case a learn meets (R8). -/
inductive LearnCase where
  /-- R9 or R10: an entry is created, in an empty way or in the victim's. -/
  | created (w : Way)
  /-- R11: four STATIC entries and none for the EID. -/
  | refused
  /-- R12. -/
  | refreshed (w : Way)
  /-- R13: moved; `fromHere` when the old place was LOCAL. -/
  | moved (w : Way) (fromHere : Bool)
  /-- R14: a STATIC entry for the EID; `conflict` when its place differs. -/
  | staticHit (conflict : Bool)
deriving DecidableEq, Repr

/-- The case of a learn of `e` at place `p` in the bucket (table of R8). -/
def learnCase (b : Bucket) (e : Eid) (p : Place) : LearnCase :=
  match findWay b e with
  | some w =>
    match b[w] with
    | some x =>
      if x.kind = .static then .staticHit (decide (x.place ≠ p))
      else if x.place = p then .refreshed w
      else .moved w (decide (x.place = .here))
    | none => .refused
  | none =>
    match emptyWay b with
    | some w => .created w
    | none => match victimWay b with
      | some w => .created w
      | none => .refused

/-- The bucket after a learn (R9 to R14): a created, refreshed or moved entry is DYNAMIC with the learn's EID, zone and place at
age 0. -/
def learnBucket (b : Bucket) (e : Eid) (z : Zone) (p : Place) : Bucket :=
  match learnCase b e p with
  | .created w | .refreshed w | .moved w _ => putEntry b w ⟨e, z, p, .dynamic, 0⟩
  | .refused | .staticHit _ => b

/-- The way ADD_STATIC writes for `e`: the entry's own, else the lowest empty way, else the victim's (R15). -/
def staticWay (b : Bucket) (e : Eid) : Option Way :=
  match findWay b e with
  | some w => some w
  | none => match emptyWay b with
    | some w => some w
    | none => victimWay b

/-- The STATIC entry ADD_STATIC and the image write (R4, R15). -/
def staticEntry (e : Eid) (z : Zone) (p : Place) : Entry := ⟨e, z, p, .static, 0⟩

/-- A visit that removes the entries passing `test`, leaving their ways empty (R18, R31, R32). -/
def flushBucket (test : Entry → Bool) (b : Bucket) : Bucket := vmap (fun x => x.filter fun y => !test y) b

/-- The number of entries of the bucket that pass `test`. -/
def countEntries (test : Entry → Bool) (b : Bucket) : Nat := allWays.countP fun w => b[w].any test

/-- An internal flush removes the DYNAMIC entries at a place of its set (R31). -/
def internalTest (places : List Place) (x : Entry) : Bool := x.kind == .dynamic && places.contains x.place

/-- A management flush removes the entries its scope selects (R32). -/
def scopeTest : Scope → Entry → Bool
  | .allDynamic, x => x.kind == .dynamic
  | .place p, x => x.kind == .dynamic && x.place == p
  | .zone z, x => x.kind == .dynamic && x.zone == z
  | .everything, _ => true

/-- A sweep removes the DYNAMIC entries whose age equals AGE_LIMIT (R34). -/
def agedTest (limit : Nat) (x : Entry) : Bool := x.kind == .dynamic && x.age == limit

/-- A sweep steps the age of every other DYNAMIC entry (R34). -/
def stepAge (x : Entry) : Entry := if x.kind = .dynamic then { x with age := x.age + 1 } else x

/-- The bucket after a sweep visit (R34). -/
def sweepBucket (limit : Nat) (b : Bucket) : Bucket := vmap (·.map stepAge) (flushBucket (agedTest limit) b)

/-- The bucket of an EID in the table. -/
def bucketFor (t : Table) (e : Eid) : Bucket := t[bucketOf e]

/-- The table with one bucket replaced. -/
def putBucket (t : Table) (n : BucketNo) (b : Bucket) : Table := t.set n b

/-- The image's static records placed in order, each in the lowest empty way of its bucket (R4). -/
def placeStatics : List StaticRecord → Table → Table
  | [], t => t
  | r :: rs, t =>
    let b := bucketFor t r.eid
    placeStatics rs (match emptyWay b with
      | some w => putBucket t (bucketOf r.eid) (putEntry b w (staticEntry r.eid r.zone r.place))
      | none => t)

/-- The learn claim of R8 on the part: the bucket's case, its count, and LOCAL_DISPLACED for a move from LOCAL to a station
(R9 to R14). -/
def State.learnClaim (s : State) (e : Eid) (z : Zone) (p : Place) : State :=
  let b := bucketFor s.lt e
  let s' := { s with lt := putBucket s.lt (bucketOf e) (learnBucket b e z p) }
  match learnCase b e p with
  | .created _ => s'.count .learnNew
  | .refused => s'.count .learnRefused
  | .refreshed _ => s'
  | .moved _ fromHere =>
    if fromHere && p != .here then (s'.count .learnMove).notify .localDisplaced e else s'.count .learnMove
  | .staticHit conflict => if conflict then s'.count .staticConflict else s'

end Sys2Proof.Machine
end

