-- ==== Sys2Proof/Machine/WalkerOps.lean ====
section
/-! DEFINITION. Raising and starting walker jobs (R24 to R30). -/

namespace Sys2Proof.Machine

/-- Start a job: BUSY, cursor 0 (R29). -/
def Walker.start (w : Walker) (j : Job) : Walker := { w with job := some j, cursor := 0 }

/-- Start the next pending job of an IDLE engine, in the order of R29: internal flush, management flush, sweep. -/
def Walker.startNext (w : Walker) : Walker :=
  if w.pendingPlaces ≠ [] then { w with pendingPlaces := [] }.start (.internalFlush w.pendingPlaces)
  else match w.pendingFlush with
    | some scope => { w with pendingFlush := none }.start (.managementFlush scope 0)
    | none => if w.sweepPending then { w with sweepPending := false }.start .sweep else w

/-- An internal flush request: the places join the pending set; an IDLE engine starts at once with them; an empty request
changes nothing (R25, R29). -/
def Walker.requestFlush (w : Walker) (places : List Place) : Walker :=
  if places = [] then w
  else
    let pending := placeUnion w.pendingPlaces places
    if w.job = none then { w with pendingPlaces := [] }.start (.internalFlush pending)
    else { w with pendingPlaces := pending }

/-- A management flush handed over: started at once by an IDLE engine, else pending (R26, R29). -/
def Walker.handFlush (w : Walker) (scope : Scope) : Walker :=
  if w.job = none then w.start (.managementFlush scope 0) else { w with pendingFlush := some scope }

/-- A sweep raised by an expiry: merged when one is pending or running, else started by an IDLE engine or made pending (R27, R28,
R29). -/
def Walker.raiseSweep (w : Walker) : Walker :=
  if w.sweepPending || w.job == some .sweep then w
  else if w.job = none then w.start .sweep
  else { w with sweepPending := true }

/-- An internal flush request of the part (R25). -/
def State.requestFlush (s : State) (places : List Place) : State := { s with tw := s.tw.requestFlush places }

end Sys2Proof.Machine
end

