-- ==== Sys2Proof/Machine/PoolOps.lean ====
section
/-! DEFINITION. The buffer pool: credit-eligibility, the push rule, top-up, the reserve, departure from DESIGNATED, card link
DOWN (chapter 4). -/

namespace Sys2Proof.Machine

/-- The configuration the blocks read: the one in force, and the defaults' figures while it is absent, when nothing depends on
them (R183; log 23). -/
def State.conf (s : State) : Config := s.cf.config.getD (Config.defaults s.cf.station)

/-- Credit-eligible: link UP, RUNNING, role not DISABLED (R66). -/
def State.creditEligible (s : State) : Bool :=
  s.cl.link == .up && s.cf.opState == .running && s.eu.role != .disabled

/-- The credit deficit (R66). -/
def State.deficit (s : State) : Nat := if s.creditEligible then s.conf.localCredits - s.bq.reserve.length else 0

/-- The push rule for a buffer already out of its holder: the reserve with a fresh credit while a deficit exists, else the free
stack (R67, R154). -/
def State.pushRule (s : State) (b : BufNo) : State :=
  if 0 < s.deficit then
    { s with bq.reserve := s.bq.reserve ++ [⟨b, .opened⟩], cl.grantTotal := s.cl.grantTotal + 1 }
  else { s with bq.free := b :: s.bq.free }

/-- The reserve holds the buffer. -/
def State.inReserve (s : State) (b : BufNo) : Bool := s.bq.reserve.any fun r => r.num == b

/-- The reserve without the buffer. -/
def State.dropReserve (s : State) (b : BufNo) : State :=
  { s with bq.reserve := s.bq.reserve.eraseP fun r => r.num == b }

/-- A reserve buffer released by the push rule: its own removal opens a unit of deficit (R67). -/
def State.releaseReserve (s : State) (b : BufNo) : State :=
  if s.inReserve b then (s.dropReserve b).pushRule b else s

/-- A reserve buffer put in another state, in its place (R66, R69). -/
def State.setReserve (s : State) (b : BufNo) (st : ReserveState) : State :=
  { s with bq.reserve := s.bq.reserve.map fun r => if r.num = b then { r with state := st } else r }

/-- The oldest OPEN buffer of the reserve (R69). -/
def State.oldestOpen (s : State) : Option BufNo := (s.bq.reserve.find? fun r => r.state == .opened).map (·.num)

/-- The number of OPEN buffers of the reserve. -/
def State.openCount (s : State) : Nat := s.bq.reserve.countP fun r => r.state == .opened

/-- The `d` oldest OPEN buffers freed, one after another, each counted LINK_MSG_LOST (R70). -/
def State.freeLost (s : State) : Nat → State
  | 0 => s
  | d + 1 =>
    match s.oldestOpen with
    | some b => ((s.releaseReserve b).count .linkMsgLost).freeLost d
    | none => s

/-- The top-up of the reserve from the free stack on becoming credit-eligible, one credit for each buffer (R68, R154). -/
def State.topUp (s : State) : State :=
  let moved := s.bq.free.take (s.conf.localCredits - s.bq.reserve.length)
  { s with
    bq.free := s.bq.free.drop moved.length
    bq.reserve := s.bq.reserve ++ moved.map fun b => ⟨b, .opened⟩
    cl.grantTotal := s.cl.grantTotal + BitVec.ofNat 8 moved.length }

/-- Write a buffer's payload (R63). -/
def State.writeBuffer (s : State) (b : BufNo) (payload : List Byte) : State :=
  { s with bq.contents := s.bq.contents.set b payload }

/-- Discard buffers one after another: each is counted and released by the push rule (R72, R77). -/
def State.discardAll (s : State) (c : Counter) : List BufNo → State
  | [] => s
  | b :: bs => ((s.count c).pushRule b).discardAll c bs

/-- The transmit slot's part of the departure: WAITING is discarded, ON_MEDIUM is marked (R77 step 1, R78). -/
def State.departSlot (s : State) : State :=
  match s.bq.txSlot with
  | .empty => s
  | .onMedium r _ => { s with bq.txSlot := .onMedium r true }
  | .waiting r => State.discardAll { s with bq.txSlot := .empty } .roleDiscard [r.buf]

/-- The urgent BTQ emptied from head to tail (R77 step 2). -/
def State.departUrgent (s : State) : State :=
  State.discardAll { s with bq.urgentQ := [] } .roleDiscard (s.bq.urgentQ.map TxRecord.buf)

/-- The normal BTQ emptied from head to tail (R77 step 3). -/
def State.departNormal (s : State) : State :=
  State.discardAll { s with bq.normalQ := [] } .roleDiscard (s.bq.normalQ.map TxRecord.buf)

/-- Steps 1 to 3 of the departure from DESIGNATED: the slot and both BTQs (R77). -/
def State.departTransmit (s : State) : State := s.departSlot.departUrgent.departNormal

/-- The delivery queue emptied from head to tail with a count for each record (R72 step 3, R77 step 4). -/
def State.emptyDelivery (s : State) (c : Counter) : State :=
  State.discardAll { s with bq.deliveryQ := [] } c (s.bq.deliveryQ.map RxRecord.buf)

/-- The departure from DESIGNATED (R77). -/
def State.departure (s : State) : State := s.departTransmit.emptyDelivery .roleDiscard

/-- Every hold on a reserve buffer cancelled (R71). -/
def State.cancelHolds (s : State) : State :=
  { s with fe.card := s.fe.card.map fun d => { d with hold := none } }

/-- The reserve released to the free stack, oldest first, and every hold cancelled (R72 step 1). -/
def State.releaseAll (s : State) : State :=
  State.cancelHolds
    { s with bq.free := (s.bq.reserve.map ReserveBuf.num).reverse ++ s.bq.free, bq.reserve := [] }

/-- Card link DOWN at the pool: the reserve to the stack; the departure if the role was DESIGNATED; the delivery queue emptied
with DELIVERY_DROP (R72). -/
def State.poolDown (s : State) : State :=
  if s.eu.role = .designated then s.releaseAll.departTransmit.emptyDelivery .deliveryDrop
  else s.releaseAll.emptyDelivery .deliveryDrop

/-- The buffer a card decision still holds (R71). -/
def State.heldBy (s : State) (d : CardDecision) : Option BufNo := d.hold.filter s.inReserve

end Sys2Proof.Machine
end

