-- ==== Sys2Proof/Machine/ElectionOps.lean ====
section
/-! DEFINITION. The segment election and the peer table: rank, candidates, changes of role, reports, ANNOUNCE and TAKEOVER taken,
ageing (chapters 5 and 6), with entry to RUNNING and to SILENT (R187). -/

namespace Sys2Proof.Machine

/-- A STATUS becomes pending; a pending one keeps its restart flag (R160). -/
def State.statusRequest (s : State) : State :=
  { s with cl.statusPending := some (s.cl.statusPending.getD false) }

/-- The operating state changes, which makes a STATUS pending (R160, R183). -/
def State.setOpState (s : State) (op : OpState) : State := State.statusRequest { s with cf.opState := op }

/-! ## Rank and candidates (R101) -/

/-- Preference `p` at station `a` outranks preference `q` at station `b`: the higher preference, then the lower number (R101). -/
def outranks (p : Nat) (a : Station) (q : Nat) (b : Station) : Bool := decide (q < p) || (p == q && decide (a < b))

/-- The present peers with their numbers, in rising order (R81). -/
def presentPeers (t : PeerTable) : List (Station × Peer) := allStations.filterMap fun n => t.peers[n].map fun p => (n, p)

/-- The present peers of the own segment. -/
def State.segmentPeers (s : State) : List (Station × Peer) :=
  (presentPeers s.pt).filter fun x => x.2.segment == s.conf.segment

/-- The candidate peers: own-segment peers not announcing DISABLED (R101). -/
def State.candidates (s : State) : List (Station × Peer) := s.segmentPeers.filter fun x => x.2.role != .disabled

/-- The designated candidates (R101). -/
def State.designatedPeers (s : State) : List (Station × Peer) := s.segmentPeers.filter fun x => x.2.role == .designated

/-- The own rank is above that of a peer (R101). -/
def State.outranksPeer (s : State) (x : Station × Peer) : Bool :=
  outranks s.conf.preference s.cf.station x.2.preference x.1

/-- The higher-ranked of the best so far and the next peer (R101). -/
def betterPeer (best : Option (Station × Peer)) (x : Station × Peer) : Option (Station × Peer) :=
  match best with
  | none => some x
  | some y => if outranks x.2.preference x.1 y.2.preference y.1 then some x else best

/-- The number of the highest-ranked of some peers (R101). -/
def highestRanked (ps : List (Station × Peer)) : Option Station := (ps.foldl betterPeer none).map (·.1)

/-- The station to be reported as forwarding for the segment (R102). -/
def State.reportedDesignated (s : State) : Option Station :=
  if s.eu.role = .designated then some s.cf.station else highestRanked s.designatedPeers

/-- Segment designated taken anew; a change makes a STATUS request (R102, R118). -/
def State.refreshDesignated (s : State) : State :=
  if s.eu.segmentDesignated = s.reportedDesignated then s
  else State.statusRequest { s with eu.segmentDesignated := s.reportedDesignated }

/-! ## Own control frames and changes of role -/

/-- The own ANNOUNCE from the values standing (R95). -/
def State.ownAnnounce (s : State) : Announce :=
  ⟨s.conf.segment, s.eu.role, s.conf.preference, s.conf.zones, s.conf.interval⟩

/-- Load the ANNOUNCE holder (R95). -/
def State.loadAnnounce (s : State) : State := { s with eu.announceHolder := some s.ownAnnounce }

/-- ROLE_CHANGE from the role left to the role standing (R118, R128). -/
def State.roleChanged (s : State) (left : Role) : State :=
  s.notify .roleChange (word16 left.code s.eu.role.code)

/-- The last steps of a change of role: ROLE_CHANGE, the STATUS request, and segment designated taken anew (R102, R118). -/
def State.announceRole (s : State) (left : Role) : State := ((s.roleChanged left).statusRequest).refreshDesignated

/-- From DISABLED to LISTENING, with the pool's top-up (R104, R68). -/
def State.enterListening (s : State) : State :=
  (State.announceRole
    (State.loadAnnounce { s with eu.role := .listening, eu.listenTimer := .running (listenIntervals * s.conf.interval) })
    s.eu.role).topUp

/-- The TAKEOVER in flight is given a drop mark; an ANNOUNCE in flight is not (R113, R138). -/
def dropTakeover (c : InFlight) : InFlight :=
  match c.frame with
  | .takeover _ => { c with dropMark := true }
  | .announce _ => c

/-- The TAKEOVER holder emptied and a TAKEOVER in flight marked, on leaving DESIGNATED (R113, R114 step 2). -/
def State.emptyTakeover (s : State) : State :=
  { s with eu.takeoverHolder := none, bp.inFlight := s.bp.inFlight.map dropTakeover }

/-- Steps 1, 2 of leaving DESIGNATED for a role (R114). -/
def State.quitDesignated (s : State) (new : Role) : State := State.emptyTakeover { s with eu.role := new }

/-- Leaving DESIGNATED by a step-down to STANDBY (R114). -/
def State.stepDown (s : State) : State :=
  (((s.quitDesignated .standby).departure.requestFlush [.here]).loadAnnounce).announceRole .designated

/-- Leaving DESIGNATED at card link DOWN; the pool's part has been taken (R114, R152). -/
def State.withdraw (s : State) : State :=
  (((s.quitDesignated .disabled).requestFlush [.here]).loadAnnounce).announceRole .designated

/-- The previous designated a TAKEOVER names (R112). -/
def State.previousDesignated (s : State) : Option Station :=
  match highestRanked s.designatedPeers with
  | some n => some n
  | none => s.eu.lastDesignated

/-- The places flushed on becoming DESIGNATED: the present own-segment peers' and the previous designated's (R111 step 5). -/
def State.partnerPlaces (s : State) (previous : Option Station) : List Place :=
  (s.segmentPeers.map fun x => Place.station x.1) ++ (previous.toList.map Place.station)

/-- Becoming DESIGNATED (R111). -/
def State.becomeDesignated (s : State) : State :=
  let previous := s.previousDesignated
  let taken : State :=
    { s with
      eu.role := .designated
      eu.lastDesignated := none
      eu.takeoverHolder := some ⟨s.conf.segment, previous⟩ }
  ((taken.loadAnnounce).requestFlush (s.partnerPlaces previous)).announceRole s.eu.role

/-- From LISTENING to STANDBY (R107). -/
def State.becomeStandby (s : State) : State :=
  (State.loadAnnounce { s with eu.role := .standby }).announceRole s.eu.role

/-- The listen expiry makes the station DESIGNATED: with designated candidates, PREEMPT and a rank above every one of them;
with none, the top rank of the candidate set (R107). -/
def State.winsListen (s : State) : Bool :=
  if s.designatedPeers.isEmpty then s.candidates.all s.outranksPeer
  else s.conf.preempt && s.designatedPeers.all s.outranksPeer

/-- A re-evaluation makes a STANDBY station DESIGNATED: no candidate is designated and the own rank tops the STANDBY ones; or
PREEMPT is on and the own rank is above every designated candidate (R110). -/
def State.winsStandby (s : State) : Bool :=
  if s.designatedPeers.isEmpty then (s.candidates.filter fun x => x.2.role == .standby).all s.outranksPeer
  else s.conf.preempt && s.designatedPeers.all s.outranksPeer

/-- The role goes to DISABLED at card link DOWN (R105). -/
def State.roleDown (s : State) : State :=
  match s.eu.role with
  | .disabled => s
  | .listening | .standby =>
    (State.loadAnnounce { s with eu.role := .disabled, eu.listenTimer := .stopped }).announceRole s.eu.role
  | .designated => s.withdraw

/-! ## Reports of the peer table (R88, R91, R93, R103, R109) -/

/-- What a report is about. -/
inductive ReportKind where
  | announce
  /-- With the previous designated named. -/
  | takeover (previous : Option Station)
  | removed
deriving DecidableEq, Repr

/-- The entry is of the own segment. -/
def State.ownSegment (s : State) (p : Option Peer) : Bool := p.any fun x => x.segment == s.conf.segment

/-- The entry is of the own segment and DESIGNATED. -/
def State.ownDesignated (s : State) (p : Option Peer) : Bool :=
  p.any fun x => x.segment == s.conf.segment && x.role == .designated

/-- Last designated after a report from station `n` (R103); before RUNNING it stays NONE (R100; log 19). -/
def State.noteDesignated (s : State) (kind : ReportKind) (n : Station) (after : Option Peer) : State :=
  if kind = .removed ∨ ¬(s.cf.opState = .running ∨ s.cf.opState = .silent) then s
  else if s.ownDesignated after then { s with eu.lastDesignated := some n }
  else if s.eu.lastDesignated = some n ∧ s.ownSegment after = false then { s with eu.lastDesignated := none }
  else s

/-- A DESIGNATED station hears station `n` DESIGNATED in its segment (R116, R117). -/
def State.resolveDual (s : State) (kind : ReportKind) (n : Station) (p : Peer) : State :=
  if s.outranksPeer (n, p) then s.loadAnnounce
  else if kind = .takeover (some s.cf.station) then s.stepDown
  else s.stepDown.raiseAlarm .dualActive (word16 0 (byteOf n))

/-- The election unit's own acting on a report, by its role (R108, R109, R110, R116). -/
def State.actOnReport (s : State) (kind : ReportKind) (n : Station) (before after : Option Peer) : State :=
  match s.eu.role with
  | .standby =>
    if (s.ownSegment before || s.ownSegment after) && s.winsStandby then s.becomeDesignated else s
  | .designated =>
    match after with
    | some p => if kind ≠ .removed ∧ s.ownDesignated after then s.resolveDual kind n p else s
    | none => s
  | .disabled | .listening => s

/-- The election unit takes a report: last designated, its own acting, segment designated (R102, R103, R109). -/
def State.report (s : State) (kind : ReportKind) (n : Station) (before after : Option Peer) : State :=
  ((s.noteDesignated kind n after).actOnReport kind n before after).refreshDesignated

/-! ## Frames taken by the peer table -/

/-- Write a peer entry. -/
def State.putPeer (s : State) (n : Station) (p : Option Peer) : State := { s with pt.peers := s.pt.peers.set n p }

/-- An event whose argument is a station (R128). -/
def stationArgument (n : Station) : BitVec 16 := word16 0 (byteOf n)

/-- The peer has left DESIGNATED, or restarted out of STANDBY or DESIGNATED, by its ANNOUNCE (R86, R87). -/
def showsRestart (before : Peer) (role : Role) : Bool :=
  (before.role == .standby || before.role == .designated) && role == .listening

/-- A flush of the peer's place is raised by its ANNOUNCE (R86, R87). -/
def showsDeparture (before : Peer) (role : Role) : Bool :=
  showsRestart before role || (before.role == .designated && role != .designated)

/-- PEER_UP or PEER_RESTART, where either applies (R84, R86, R88 step 2). -/
def State.notifyPeer (s : State) (n : Station) (before : Option Peer) (role : Role) : State :=
  match before with
  | none => s.notify .peerUp (stationArgument n)
  | some q => if showsRestart q role then s.notify .peerRestart (stationArgument n) else s

/-- INTERVAL_MISMATCH, where it applies (R85, R88 step 3). -/
def State.notifyInterval (s : State) (n : Station) (before : Option Peer) (interval : Nat) : State :=
  if interval ≠ s.conf.interval ∧ before.map (·.interval) ≠ some interval then
    s.notify .intervalMismatch (word16 (byteOf n) (byteOf interval))
  else s

/-- The flush of the peer's place, where one applies (R86, R87, R88 step 4). -/
def State.flushPeer (s : State) (n : Station) (before : Option Peer) (role : Role) : State :=
  if before.any fun q => showsDeparture q role then s.requestFlush [.station n] else s

/-- A good ANNOUNCE from station `n` (R84 to R88). -/
def State.takeAnnounce (s : State) (n : Station) (a : Announce) : State :=
  let before := s.pt.peers[n]
  let after : Peer := ⟨a.segment, a.role, a.preference, a.zones, a.interval, 0⟩
  State.report
    (((((s.putPeer n (some after)).notifyPeer n before a.role).notifyInterval n before a.interval)).flushPeer n before a.role)
    .announce n before (some after)

/-- The flush a TAKEOVER from `n` asks for: of the previous designated, when it is a station other than the own one and `n`
(R93, R94). -/
def State.flushPrevious (s : State) (n : Station) (previous : Option Station) : State :=
  match previous with
  | some p => if p ≠ s.cf.station ∧ p ≠ n then s.requestFlush [.station p] else s
  | none => s

/-- The previous designated as the report names it: the sender itself counts as NONE (R94). -/
def namedPrevious (n : Station) (previous : Option Station) : Option Station := previous.filter fun p => p != n

/-- A good TAKEOVER from station `n` (R93, R94). -/
def State.takeTakeover (s : State) (n : Station) (t : Takeover) : State :=
  match s.pt.peers[n] with
  | none => s.flushPrevious n t.previous
  | some q =>
    let after : Peer := { q with role := .designated, segment := t.segment, missed := 0 }
    State.report ((s.putPeer n (some after)).flushPrevious n t.previous)
      (.takeover (namedPrevious n t.previous)) n (some q) (some after)

/-- A good DATA frame from station `n` keeps a present peer alive (R89). -/
def State.noteAlive (s : State) (n : Station) : State :=
  s.putPeer n (s.pt.peers[n].map fun q => { q with missed := 0 })

/-! ## Ageing (R90 to R92) -/

/-- An entry after an expiry: its missed count stepped, or removed where it would reach 4 (R90). -/
def agePeer (p : Option Peer) : Option Peer :=
  match p with
  | some q => if q.missed + 1 < missedLimit then some { q with missed := q.missed + 1 } else none
  | none => none

/-- The peers an expiry removes, in rising order, with their entries as they stood (R91). -/
def removedPeers (t : PeerTable) : List (Station × Peer) :=
  (presentPeers t).filter fun x => decide (missedLimit ≤ x.2.missed + 1)

/-- PEER_DOWN for each removed station (R91 step 1). -/
def State.notifyDown (s : State) : List (Station × Peer) → State
  | [] => s
  | x :: xs => (s.notify .peerDown (stationArgument x.1)).notifyDown xs

/-- The REMOVED reports (R91 step 3). -/
def State.reportRemoved (s : State) : List (Station × Peer) → State
  | [] => s
  | x :: xs => (s.report .removed x.1 (some x.2) none).reportRemoved xs

/-- The announce timer's expiry at the peer table and the election unit (R90 to R92). -/
def State.agePeers (s : State) : State :=
  let gone := removedPeers s.pt
  let aged : State :=
    { s with pt.peers := vmap agePeer s.pt.peers, pt.announceTimer := .running s.conf.interval }
  let told := ((aged.notifyDown gone).requestFlush (gone.map fun x => Place.station x.1)).reportRemoved gone
  if told.cf.opState = .running then told.loadAnnounce else told

/-! ## Entry to RUNNING and to SILENT (R106, R187) -/

/-- Sync is gained: SYNCED and RUNNING, the timers start, and a link that is UP goes to LISTENING (R144, R187). -/
def State.enterRunning (s : State) : State :=
  let run : State :=
    { s.setOpState .running with
      bp.sync := .synced
      pt.announceTimer := .running s.conf.interval
      tw.sweepTimer := if s.conf.sweepPeriod = 0 then .stopped else .running s.conf.sweepPeriod }
  if run.cl.link = .up then run.enterListening else run

/-- The role's way to DISABLED at entry to SILENT: the departure without its loading (R106, R114). -/
def State.roleSilent (s : State) : State :=
  match s.eu.role with
  | .disabled => s
  | .listening | .standby => State.announceRole { s with eu.role := .disabled } s.eu.role
  | .designated => ((s.quitDesignated .disabled).departure.requestFlush [.here]).announceRole .designated

/-- A duplicate station is detected: SILENT, role DISABLED, the listen timer stopped, both holders emptied (R106, R145, R187). -/
def State.enterSilent (s : State) : State :=
  let quiet := (s.setOpState .silent).roleSilent
  { quiet with eu.listenTimer := .stopped, eu.announceHolder := none, eu.takeoverHolder := none }

end Sys2Proof.Machine
end

