-- ==== Sys2Proof/Machine/MgmtOps.lean ====
section
/-! DEFINITION. The management engine: taking, answering and finishing requests (R163 to R166), and what a request reads
(R130, R170). -/

namespace Sys2Proof.Machine

/-- An idle engine takes the head of its queue at once, in the operating state `op` (R164). -/
def Management.takeNext (m : Management) (op : OpState) : Management :=
  match m.stage, m.queue with
  | .idle, r :: rs => { m with queue := rs, current := some r, stage := .taken op }
  | _, _ => m

/-- The current request finishes, the mark is cleared, and the next is taken (R164, R165). -/
def Management.finish (m : Management) (op : OpState) : Management :=
  { m with current := none, stage := .idle, discardMark := false }.takeNext op

/-- The current request finishes. -/
def State.finishRequest (s : State) : State := { s with me := s.me.finish s.cf.opState }

/-- A response is made: placed in the response list and waited for, or, under the discard mark, discarded with the request
finished in the same event (R165). `restart` is set when its end starts the warm restart (R173). -/
def State.respond (s : State) (status : Status) (results : List Byte) (restart : Bool) : State :=
  match s.me.current with
  | none => s
  | some r =>
    if s.me.discardMark then s.finishRequest
    else
      { s with
        me.stage := .waitSend restart
        cl.responses := s.cl.responses ++ [⟨r.tag, responseBody status r.body results, true⟩] }

/-- A response that starts nothing. -/
def State.answer (s : State) (status : Status) (results : List Byte) : State := s.respond status results false

/-- The request is allowed in the operating state (R166). -/
def requestAllowed (c : ReqCode) (op : OpState) : Bool :=
  match c with
  | .readEntry | .readBucket | .addStatic | .remove | .flush | .readPeer => op != .loading && op != .configFault
  | .readStatus | .readCounters | .ackEvent => true
  | .restart => op != .loading

/-- The current request taken and not yet executed, with the operating state standing when it was taken. -/
def State.takenRequest (s : State) : Option (Request × OpState) :=
  match s.me.stage with
  | .taken op => s.me.current.map fun r => (r, op)
  | .idle | .waitWalk | .waitSend _ => none

/-- Execute the current request if it has the form of `c`: NOT_ALLOWED where the state at its taking forbids it, else its own effect
on its arguments (R164, R165, R166). -/
def State.execute (s : State) (c : ReqCode) (effect : State → List Byte → State) : Option State :=
  match s.takenRequest with
  | none => none
  | some (r, op) =>
    if requestForm r.body = some c then
      some (if requestAllowed c op then effect s r.body.tail else s.answer .notAllowed [])
    else none

/-- The walker's completion of a management flush hands over its removed count: the FLUSH response is made (R33, R169). -/
def State.flushDone (s : State) (removed : Nat) : State :=
  if s.me.stage = .waitWalk then
    s.answer .ok [hiByte (BitVec.ofNat 16 removed), loByte (BitVec.ofNat 16 removed)]
  else s

/-- The management engine at card link DOWN: the queue is discarded; a request not yet answered is marked; a response still
waiting in the list ends its request (R174). `waiting` tells that the engine's response still waits in the list. -/
def Management.linkDown (m : Management) (op : OpState) (waiting : Bool) : Management :=
  match m.stage with
  | .idle => { m with queue := [] }
  | .taken _ | .waitWalk => { m with queue := [], discardMark := true }
  | .waitSend _ => if waiting then { m with queue := [] }.finish op else { m with queue := [] }

/-- The code of the walker job in the status record. Code 2 is not used: READ_STATUS is never built during a management flush, which
is given 0 here and shown by no run (R38, R130; log 23). -/
def jobCode : Option Job → Byte
  | none => 0
  | some (.internalFlush _) => 1
  | some (.managementFlush _ _) => 0
  | some .sweep => 3

/-- The status record of READ_STATUS (R130, R170). -/
def State.statusRecord (s : State) : List Byte :=
  [s.cf.opState.code, s.eu.role.code, stationOrNone s.eu.segmentDesignated, byteOf s.cf.station,
    (match s.cf.config with | some c => byteOf c.segment | none => 0xFF#8),
    byteOf s.bp.pointer, byteOf s.bq.free.length, byteOf s.bq.reserve.length, byteOf s.bq.urgentQ.length,
    byteOf s.bq.normalQ.length, byteOf s.bq.deliveryQ.length, byteOf s.ec.queue.length, jobCode s.tw.job,
    byteOf s.tw.cursor, byteOf ((if s.tw.pendingPlaces = [] then 0 else 1) + 4 * s.tw.sweepPending.toNat),
    s.ec.alarms.byte]

/-- The bytes of counters `first` to `first + count - 1` (R130, R171). -/
def EventUnit.counterRange (e : EventUnit) (first count : Nat) : List Byte :=
  ((e.counters.toList.drop first).take count).flatMap counterBytes

/-- Counters `first` to `first + count - 1` set to 0, the others untouched (R171). -/
def EventUnit.clearRange (e : EventUnit) (first count : Nat) : EventUnit :=
  { e with counters := Vector.ofFn fun i => if first ≤ i.val ∧ i.val < first + count then 0 else e.counters[i] }

end Sys2Proof.Machine
end

