-- ==== Sys2Proof/Machine/LinkOps.lean ====
section
/-! DEFINITION. The card link port: the transmit arbiter, link UP and DOWN, the sequence check (chapter 9), and the warm restart
that a RESTART begins (R188). -/

namespace Sys2Proof.Machine

/-! ## The transmit arbiter (R159) -/

/-- The delivery allowance (R148). -/
def CardLink.allowance (c : CardLink) : Byte := c.acceptTotal - c.deliveredTotal

/-- Start sending a message. -/
def State.send (s : State) (m : OutMessage) : State := { s with cl.tx := some m }

/-- DATA_IN from the head of the delivery queue, when the conditions of R158 hold; else IDLE when the idle timer has expired
(R159 cases 5 and 6). -/
def State.chooseData (s : State) : State :=
  match s.bq.deliveryQ, s.bq.deliverySlot with
  | r :: rs, none =>
    if s.cl.allowance ≠ 0 then
      State.send { s with bq.deliveryQ := rs, bq.deliverySlot := some r }
        (.dataIn (s.cl.deliveredTotal + 1) (dataInBody r s.bq.contents[r.buf]) false)
    else if s.cl.idleTimer = .running 0 then s.send .idle else s
  | _, _ => if s.cl.idleTimer = .running 0 then s.send .idle else s

/-- The first ready message of R159: STATUS, CREDIT, RESPONSE, EVENT, DATA_IN, IDLE, built from the values standing. -/
def State.choose (s : State) : State :=
  match s.cl.statusPending with
  | some restart =>
    State.send { s with cl.statusPending := none } (.status s.cf.opState s.eu.role s.eu.segmentDesignated restart)
  | none =>
    if s.cl.grantTotal ≠ s.cl.lastCredit then
      State.send { s with cl.lastCredit := s.cl.grantTotal } (.credit s.cl.grantTotal)
    else match s.cl.responses with
      | r :: rs => State.send { s with cl.responses := rs } (.response r)
      | [] => match s.ec.queue with
        | e :: es => State.send { s with ec.queue := es } (.event e)
        | [] => s.chooseData

/-- The arbiter at the end of an event: an idle transmitter of a link that is UP takes the first ready message (R159). -/
def State.arbitrate (s : State) : State :=
  if s.cl.tx = none ∧ s.cl.link = .up then s.choose else s

/-- The idle timer's full time, LINK_HOLD × 5 ms (R148). -/
def CardLink.idleTime (c : CardLink) : Timer := .running (c.linkHold * 5)

/-- The link-hold timer's full time, LINK_HOLD × 10 ms (R148). -/
def CardLink.holdTime (c : CardLink) : Timer := .running (c.linkHold * 10)

/-- A message has been sent: the transmitter is idle and, while the link is UP, the idle timer restarts (R159; log 22). -/
def CardLink.sent (c : CardLink) : CardLink :=
  { c with tx := none, idleTimer := if c.link = .up then c.idleTime else c.idleTimer }

/-- A message has been sent. -/
def State.messageSent (s : State) : State := { s with cl := s.cl.sent }

/-! ## Link UP (R150, R151) -/

/-- Link UP by a good message received while DOWN: both timers, a STATUS pending, LISTENING where RUNNING (R151). -/
def State.linkUp (s : State) : State :=
  let up := State.statusRequest { s with cl.link := .up, cl.holdTimer := s.cl.holdTime, cl.idleTimer := s.cl.idleTime }
  if up.cf.opState = .running ∧ up.eu.role = .disabled then up.enterListening else up

/-- What every good message does first, in the event of its end: the receiver goes to HEADER, a DOWN link comes UP, the link-hold
timer restarts (R149, R150). -/
def State.goodMessage (s : State) : State :=
  let read : State := { s with cl.receiver := .header [] }
  let up := if read.cl.link = .down then read.linkUp else read
  { up with cl.holdTimer := up.cl.holdTime }

/-- The receiver is at the header's place, and the bytes it has gathered there begin these (R149). -/
def State.awaitsHeader (s : State) (bytes : List Byte) : Bool :=
  match s.cl.receiver with
  | .hunt => true
  | .header got => got.isPrefixOf bytes
  | .body _ _ _ | .other _ _ => false

/-- A body of this length with these bytes so far can end as `body` (R149). -/
def endsAs (length : Fin 271) (got body : List Byte) : Bool := body.length == length.val && got.isPrefixOf body

/-- The header of the message being received, other than a DATA_OUT, when its bytes so far can go on to `body` (R149). -/
def State.endingMessage (s : State) (body : List Byte) : Option LinkHeader :=
  match s.cl.receiver with
  | .other h got => if endsAs h.length got body then some h else none
  | .hunt | .header _ | .body _ _ _ => none

/-! ## The warm restart (R188) -/

/-- The bus port's warm-restart values; the medium is outside and stays as it is seen (R133, R146; log 5). -/
def BusPort.warmRestart (b : BusPort) : BusPort := { BusPort.reset with medium := b.medium }

/-- A response being sent at a warm restart no longer ends a request of the engine (R173, R175; log 14). A DATA_IN being sent stops
(R64, R153). -/
def restartMessage : Option OutMessage → Option OutMessage
  | some (.response r) => some (.response { r with fromEngine := false })
  | some (.dataIn _ _ _) => none
  | m => m

/-- A DATA_OUT being received at a warm restart is stale (R155). -/
def restartReceiver : Receiver → Receiver
  | .body h got _ => .body h got .stale
  | r => r

/-- Frames under decision that a warm restart overtakes are not delivered afterwards (R61). -/
def State.overtakeFrames (s : State) : State :=
  { s with fe.backplane := s.fe.backplane.map fun d => { d with overtaken := true } }

/-- The card link port at a warm restart: with the link UP the grant side is zeroed, the response list emptied, a STATUS with
restart flag 1 pending and the window open; with the link DOWN nothing is made pending (R153). -/
def CardLink.warmRestart (c : CardLink) : CardLink :=
  let kept := { c with responses := [], tx := restartMessage c.tx, receiver := restartReceiver c.receiver }
  if c.link = .up then
    { kept with grantTotal := 0, lastCredit := 0, expectedSeq := 0, statusPending := some true, restartWindow := true }
  else kept

/-- The warm restart: LOADING, every block at its warm-restart values, the straps read again, the image read from byte 0 (R188).
Decisions under way stay, the card's with their holds cancelled and the backplane's not to be delivered (R61, R71). -/
def State.warmRestart (s : State) (straps : Station) : State :=
  State.overtakeFrames <| State.cancelHolds
    { s with
      cf := ⟨.loading, straps, none, []⟩
      lt := emptyTable
      tw := .reset
      bq := { Pool.reset with contents := s.bq.contents }
      pt := .reset
      eu := .reset
      bp := s.bp.warmRestart
      cl := s.cl.warmRestart
      me := .reset
      ec := s.ec.warmRestart }

/-! ## Link DOWN (R152) -/

/-- A DATA_IN being sent when the link goes DOWN straddles it (R158). -/
def straddle : OutMessage → OutMessage
  | .dataIn tag body _ => .dataIn tag body true
  | m => m

/-- Steps 1 and 2 of the DOWN at the card link port: timers stopped, receiver to HUNT, every total 0, STATUS pending and restart
window cleared (R152). The message being sent goes on. -/
def CardLink.goDown (c : CardLink) : CardLink :=
  { c with
    link := .down
    holdTimer := .stopped
    idleTimer := .stopped
    receiver := .hunt
    grantTotal := 0
    lastCredit := 0
    expectedSeq := 0
    acceptTotal := 0
    deliveredTotal := 0
    statusPending := none
    restartWindow := false
    tx := c.tx.map straddle }

/-- Step 5 of the DOWN: the response list is emptied and the engine discards its queue (R152, R174). -/
def State.engineDown (s : State) : State :=
  { s with
    cl.responses := []
    me := s.me.linkDown s.cf.opState (s.cl.responses.any (·.fromEngine)) }

/-- The card link DOWN: its five steps, and then the warm restart when a RESTART's response was still to end (R152, R173). -/
def State.linkDown (s : State) (straps : Station) : State :=
  let down := ((State.poolDown { s with cl := s.cl.goDown }).roleDown).engineDown
  if s.me.stage = .waitSend true then down.warmRestart straps else down

/-! ## DATA_OUT: header and sequence check (R69, R155, R156) -/

/-- What a DATA_OUT whose header arrives now writes into: stale while the link is DOWN or the restart window open; else the oldest
OPEN buffer, or nothing (R69, R155). -/
def State.dataOutMode (s : State) : DataOutMode :=
  if s.cl.link = .down ∨ s.cl.restartWindow then .stale
  else match s.oldestOpen with
    | some b => .into b
    | none => .overrun

/-- A DATA_OUT refused: LINK_PROTO_ERR and the LINK_PROTOCOL alarm with its cause and the value (R155, R156, R157). -/
def State.refuse (s : State) (cause : Nat) (value : Byte) : State :=
  (s.count .linkProtoErr).raiseAlarm .linkProtocol (word16 (byteOf cause) value)

/-- The outcome of the sequence check (R156). -/
inductive SeqVerdict where
  /-- Refused with this cause. -/
  | refused (cause : Nat)
  /-- Accepted with this many lost messages. -/
  | accepted (lost : Nat)
deriving DecidableEq, Repr

/-- The sequence check of a DATA_OUT with tag `tag` that holds a RECEIVING buffer (R156). -/
def State.judgeSequence (s : State) (tag : Byte) : SeqVerdict :=
  let d := (tag - s.cl.expectedSeq).toNat
  if s.bq.reserve.length ≤ d then .refused 1
  else if s.openCount < d then .refused 2
  else .accepted d

/-- An accepted DATA_OUT: the lost messages' buffers freed and E moved past the tag (R70, R156). -/
def State.acceptSequence (s : State) (tag : Byte) (lost : Nat) : State :=
  let freed := s.freeLost lost
  { freed with cl.expectedSeq := tag + 1 }

/-- The BUSY answers waiting in the response list (R161). -/
def CardLink.busyCount (c : CardLink) : Nat := c.responses.countP fun r => !r.fromEngine

end Sys2Proof.Machine
end

