-- ==== Sys2Proof/Machine/Ops.lean ====
section
/-! DEFINITION. How a command becomes an outcome: RESET held, events that cannot occur, the arbiter at the end (R159, R183). -/

namespace Sys2Proof.Machine

/-- The outcome of a command whose effect on the part is `effect`, none where the event cannot occur in this state: nothing while
RESET is asserted (R183) and nothing for an event that cannot occur (log 2); else the effect, and then the transmit arbiter
(R159). -/
def takeEvent (s : State) (effect : Option State) : Host.Outcome State Fault Refusal :=
  if s.resetAsserted then .next s
  else match effect with
    | some t => .next t.arbitrate
    | none => .next s

end Sys2Proof.Machine
end

