-- ==== Sys2Proof/Machine/Forwarding.lean ====
section
/-! DEFINITION. The forwarding engine: card and backplane decisions, their claims and their ends (chapter 3). -/

namespace Sys2Proof.Machine

/-! ## Ends in order (R39) -/

/-- A card decision ends in a discard: its counter and its buffer by the push rule, or, with its hold cancelled, STANDBY_DROP and
no buffer (R52, R71; log 10). -/
def State.endCard (s : State) (d : CardDecision) (c : Counter) : State :=
  match s.heldBy d with
  | some b => (s.count c).releaseReserve b
  | none => s.count .standbyDrop

/-- The leading discards of a list of card decisions end, and the rest stay under way (R39; log 9). -/
def State.endLeading (s : State) : List CardDecision → State
  | [] => { s with fe.card := [] }
  | d :: ds =>
    match d.stage with
    | .discard c => (s.endCard d c).endLeading ds
    | .learn _ | .lookup _ | .peer _ _ | .flood _ | .handover _ _ => { s with fe.card := d :: ds }

/-- Every card decision whose turn has come ends (R39). -/
def State.settleCard (s : State) : State := s.endLeading s.fe.card

/-- A backplane decision that is over. -/
def BackplaneDecision.isOver (d : BackplaneDecision) : Bool :=
  match d.stage with
  | .ended => true
  | .learn _ _ | .lookup _ | .handover _ => false

/-- Every backplane decision whose turn has come ends; a frame let go counts nothing and leaves no buffer (R39, R40, R57). -/
def State.settleBackplane (s : State) : State :=
  { s with fe.backplane := s.fe.backplane.dropWhile BackplaneDecision.isOver }

/-! ## Card decisions (R41 to R50) -/

/-- A flood has a receiver: a present peer announcing DESIGNATED with the zone (R50). -/
def State.floodHasReceiver (s : State) (z : Zone) : Bool :=
  (presentPeers s.pt).any fun x => x.2.role == .designated && hasZone x.2.zones z

/-- Step 7: the flood, or its pruning (R50). -/
def State.floodStage (s : State) (f : CardFrame) : CardStage :=
  if s.floodHasReceiver f.zone then .handover f .all else .discard .floodPruned

/-- A miss, or a hit handled as one: DROP_UNKNOWN decides (R49). -/
def State.missStage (s : State) (f : CardFrame) : CardStage :=
  if s.conf.dropUnknown then .discard .unknownDrop else .flood f

/-- Step 6 on the lookup's answer: a hit on a station goes on to the read of its peer entry (R47). -/
def State.lookupStage (s : State) (f : CardFrame) (answer : Option Entry) : CardStage :=
  match answer.map Entry.place with
  | none => s.missStage f
  | some .here => .discard .localFiltered
  | some (.station n) => .peer f n

/-- Step 6's read of the peer table for a hit on station `n` (R47, R48). -/
def State.peerStage (s : State) (f : CardFrame) (n : Station) : CardStage :=
  match s.pt.peers[n] with
  | none => s.missStage f
  | some p => if hasZone p.zones f.zone then .handover f (.station n) else .discard .zoneDrop

/-- Step 5: BROADCAST to the flood, any other destination to its lookup (R46). -/
def afterLearnStage (f : CardFrame) : CardStage := if f.dstEid = broadcast then .flood f else .lookup f

/-- Steps 1 to 4 of a card decision, in order (R41 to R45). -/
def State.firstStage (s : State) (body : List Byte) : CardStage :=
  if s.cf.opState ≠ .running ∨ s.eu.role ≠ .designated then .discard .standbyDrop
  else match cardFrameOfBody body with
    | none => .discard .linkMsgErr
    | some f =>
      if hasZone s.conf.zones f.zone = false then .discard .zoneDrop
      else if s.conf.learn then .learn f
      else afterLearnStage f

/-- A card decision starts on a DATA_OUT that lies in buffer `b` (R41). -/
def State.startCard (s : State) (b : BufNo) (body : List Byte) : State :=
  State.settleCard { s with fe.card := s.fe.card ++ [⟨some b, s.firstStage body⟩] }

/-- The card decision at a position goes on to another stage. -/
def State.putCardStage (s : State) (i : Nat) (d : CardDecision) (stage : CardStage) : State :=
  State.settleCard { s with fe.card := s.fe.card.set i { d with stage := stage } }

/-! ## Backplane decisions (R55 to R59) -/

/-- What the tests of role, zone and destination leave the decision to do (R57 to R59). -/
def State.deliveryPlan (s : State) (f : DataFrame) : DeliveryPlan :=
  if s.eu.role ≠ .designated ∨ hasZone s.conf.zones f.zone = false then .letGo
  else if f.dest = .station s.cf.station then .deliver
  else if f.dest = .all then (if f.dstEid = broadcast then .deliver else .lookup)
  else .letGo

/-- The decision once its learn is behind it. -/
def DeliveryPlan.proceed (f : DataFrame) : DeliveryPlan → BackplaneStage
  | .letGo => .ended
  | .lookup => .lookup f
  | .deliver => .handover f

/-- A backplane decision starts (R55, R56): with its learn, or without one where LEARN is off. -/
def State.startBackplane (s : State) (f : DataFrame) : State :=
  let stage : BackplaneStage := if s.conf.learn then .learn f (s.deliveryPlan f) else (s.deliveryPlan f).proceed f
  State.settleBackplane { s with fe.backplane := s.fe.backplane ++ [⟨false, stage⟩] }

/-- The lookup's answer on a frame to ALL: for this station on a miss or a hit with place LOCAL (R59). -/
def backplaneLookup (f : DataFrame) (answer : Option Entry) : BackplaneStage :=
  match answer.map Entry.place with
  | none | some .here => .handover f
  | some (.station _) => .ended

/-- The backplane decision at a position goes on to another stage. -/
def State.putBackplane (s : State) (i : Nat) (d : BackplaneDecision) (stage : BackplaneStage) : State :=
  State.settleBackplane { s with fe.backplane := s.fe.backplane.set i { d with stage := stage } }

/-! ## LEARN -/

/-- The learn of a source EID, issued only in RUNNING with LEARN on and never at the own station number, each as it stands at the
claim, so that a decision begun before a warm restart learns once the part is RUNNING again (R3, R8; log 11). -/
def State.issueLearn (s : State) (e : Eid) (z : Zone) (p : Place) : State :=
  if s.cf.opState = .running ∧ s.conf.learn ∧ p ≠ .station s.cf.station then s.learnClaim e z p else s

/-- The learn step of a card decision, at place LOCAL (R45). -/
def State.cardLearn (s : State) (i : Nat) : Option State :=
  match s.fe.card[i]? with
  | some d =>
    match d.stage with
    | .learn f =>
      let s' := s.issueLearn f.srcEid f.zone .here
      some (s'.putCardStage i d (afterLearnStage f))
    | .lookup _ | .peer _ _ | .flood _ | .handover _ _ | .discard _ => none
  | none => none

/-- The learn step of a backplane decision, at the sender's place (R56). -/
def State.backplaneLearn (s : State) (i : Nat) : Option State :=
  match s.fe.backplane[i]? with
  | some d =>
    match d.stage with
    | .learn f plan => some ((s.issueLearn f.srcEid f.zone (.station f.source)).putBackplane i d (plan.proceed f))
    | .lookup _ | .handover _ | .ended => none
  | none => none

/-- LEARN: the decision at a position of its side makes its learn claim (R8, R45, R56). -/
def execLearn (side : Side) (index : Nat) (s : State) : Host.Outcome State Fault Refusal :=
  takeEvent s (match side with
    | .card => s.cardLearn index
    | .backplane => s.backplaneLearn index)

/-! ## LOOKUP -/

/-- A card decision's lookup claim, its read of the peer table for a hit on a station, or its flood test, each an event of its own
(R47, R48, R50, R53; log 8). -/
def State.cardLookup (s : State) (i : Nat) : Option State :=
  match s.fe.card[i]? with
  | some d =>
    match d.stage with
    | .lookup f => some (s.putCardStage i d (s.lookupStage f (lookupEntry (bucketFor s.lt f.dstEid) f.dstEid)))
    | .peer f n => some (s.putCardStage i d (s.peerStage f n))
    | .flood f => some (s.putCardStage i d (s.floodStage f))
    | .learn _ | .handover _ _ | .discard _ => none
  | none => none

/-- The lookup step of a backplane decision (R59). -/
def State.backplaneLookupStep (s : State) (i : Nat) : Option State :=
  match s.fe.backplane[i]? with
  | some d =>
    match d.stage with
    | .lookup f => some (s.putBackplane i d (backplaneLookup f (lookupEntry (bucketFor s.lt f.dstEid) f.dstEid)))
    | .learn _ _ | .handover _ | .ended => none
  | none => none

/-- LOOKUP: the decision at a position of its side makes its lookup claim, or a read of the peer table that follows it (R7, R47,
R48, R50, R59). -/
def execLookup (side : Side) (index : Nat) (s : State) : Host.Outcome State Fault Refusal :=
  takeEvent s (match side with
    | .card => s.cardLookup index
    | .backplane => s.backplaneLookupStep index)

/-! ## BTQ_HANDOVER -/

/-- The class's BTQ is full (R51, R73). -/
def State.btqFull (s : State) (urgent : Bool) : Bool :=
  if urgent then decide (urgentDepth ≤ s.bq.urgentQ.length) else decide (normalDepth ≤ s.bq.normalQ.length)

/-- Add a record at the tail of its class's BTQ (R51). -/
def State.addTx (s : State) (r : TxRecord) : State :=
  if r.urgent then { s with bq.urgentQ := s.bq.urgentQ ++ [r] } else { s with bq.normalQ := s.bq.normalQ ++ [r] }

/-- The BTQ record of a card frame (R51). -/
def txRecord (b : BufNo) (f : CardFrame) (dest : Dest) : TxRecord :=
  ⟨b, dest, f.urgent, f.zone, f.dstEid, f.srcEid, f.length, 0⟩

/-- The hand-over of step 8: refused with STANDBY_DROP or BTQ_DROP, or the buffer leaves the reserve for a record (R51, R71). -/
def State.handOverCard (s : State) (d : CardDecision) (f : CardFrame) (dest : Dest) : State :=
  if s.eu.role ≠ .designated then s.endCard d .standbyDrop
  else if s.btqFull f.urgent then s.endCard d .btqDrop
  else match s.heldBy d with
    | some b => (s.dropReserve b).addTx (txRecord b f dest)
    | none => s.count .standbyDrop

/-- BTQ_HANDOVER: the oldest card decision reaches step 8 (R51). -/
def execBtqHandover (s : State) : Host.Outcome State Fault Refusal :=
  takeEvent s (match s.fe.card with
    | d :: ds =>
      match d.stage with
      | .handover f dest => some ((s.handOverCard d f dest).endLeading ds)
      | .learn _ | .lookup _ | .peer _ _ | .flood _ | .discard _ => none
    | [] => none)

/-! ## DELIVERY_HANDOVER -/

/-- The delivery record of a frame (R60). -/
def rxRecord (b : BufNo) (f : DataFrame) : RxRecord :=
  ⟨b, f.dest, f.urgent, f.zone, f.dstEid, f.srcEid, f.payload.length, f.source⟩

/-- The hand-over of a frame to be delivered, by the first of the four cases; one that a warm restart has overtaken ends as with the
role DISABLED (R60, R61, R76). -/
def State.handOverDelivery (s : State) (overtaken : Bool) (f : DataFrame) : State :=
  if overtaken ∨ s.eu.role ≠ .designated then s.count .roleDiscard
  else match s.bq.free with
    | [] => s.count .poolDrop
    | b :: rest =>
      let popped : State := { s with bq.free := rest }
      if deliveryDepth ≤ s.bq.deliveryQ.length then (popped.pushRule b).count .deliveryDrop
      else State.writeBuffer { popped with bq.deliveryQ := s.bq.deliveryQ ++ [rxRecord b f] } b f.payload

/-- DELIVERY_HANDOVER: the oldest backplane decision reaches its hand-over (R60). -/
def execDeliveryHandover (s : State) : Host.Outcome State Fault Refusal :=
  takeEvent s (match s.fe.backplane with
    | d :: ds =>
      match d.stage with
      | .handover f => some (State.settleBackplane { s.handOverDelivery d.overtaken f with fe.backplane := ds })
      | .learn _ _ | .lookup _ | .ended => none
    | [] => none)

end Sys2Proof.Machine
end

