-- ==== Sys2Proof/Machine/BusPort.lean ====
section
/-! DEFINITION. The bus port: the medium and the ladder, sending, collisions, receiving (chapters 7 and 8). -/

namespace Sys2Proof.Machine

/-! ## The medium and the ladder -/

/-- The operating states in which the receiver judges and jams are taken (R142, R143). -/
def OpState.listens : OpState → Bool
  | .syncing | .running | .silent => true
  | .loading | .configFault => false

/-- The medium is no longer idle: the ladder is given up and the quiet count goes back to 0 (R134, R144). -/
def BusPort.occupy (b : BusPort) (m : Medium) : BusPort := { b with medium := m, ladder := .busy, quietCount := 0 }

/-- The class of what the medium's going idle ends in the assembly area: a frame without its end is a frame error, one that ends
before its byte 8 a header error, anything else, and a frame cut by a jam, counts nothing (R124, R142, R143). -/
def State.countCut (s : State) (truncated : Bool) : State :=
  match s.bp.assembly with
  | .frame _ => s.count .rxFrameErr
  | .empty => if truncated && s.cf.opState.listens && s.bp.medium == .carrier then s.count .rxHeaderErr else s
  | .waitIdle => s

/-- MEDIUM_GOES_IDLE: the ladder position becomes GAP with 2 slots left, and a frame being received ends (R124, R134). -/
def execMediumGoesIdle (truncated : Bool) (s : State) : Host.Outcome State Fault Refusal :=
  takeEvent s (
    if s.bp.ladder = .busy ∧ s.bp.transmitter = .off then
      some { s.countCut truncated with bp.medium := .idle, bp.ladder := .gap 2, bp.assembly := .empty }
    else none)

/-- MEDIUM_LEAVES_IDLE: carrier appears; the ladder is given up and a station whose rung has not come defers (R134, R136). -/
def execMediumLeavesIdle (s : State) : Host.Outcome State Fault Refusal :=
  takeEvent s (if s.bp.medium = .idle then some { s with bp := s.bp.occupy .carrier } else none)

/-- The rung that begins now: rung 0 after the gap, the next one after a rung, rung 0 again after rung 63 (R134). -/
def Ladder.nextRung : Ladder → Option (Fin 64)
  | .busy => none
  | .gap _ => some 0
  | .rung k => some (k + 1)

/-- The slots still to pass before the next rung begins. -/
def Ladder.slots : Ladder → Nat
  | .busy => 0
  | .gap left => left
  | .rung _ => 1

/-- The rung offset r (R135). -/
def State.rungOffset (s : State) : Station := s.cf.station - s.bp.pointer - 1

/-- Urgent work stands (R135). While a normal frame is WAITING, a record in the urgent BTQ does not count, as R135's table has it,
though R136 speaks of that case at the urgent rung (log 28). -/
def State.urgentWork (s : State) : Bool :=
  s.eu.announceHolder.isSome || s.eu.takeoverHolder.isSome ||
    match s.bq.txSlot with
    | .empty => !s.bq.urgentQ.isEmpty
    | .waiting r => r.urgent
    | .onMedium _ _ => false

/-- Normal work stands (R135). -/
def State.normalWork (s : State) : Bool :=
  match s.bq.txSlot with
  | .empty => !s.bq.normalQ.isEmpty
  | .waiting r => !r.urgent
  | .onMedium _ _ => false

/-- The station uses rung `k`: its urgent rung with urgent work, its normal rung with any work, each as it stands at the start of
the rung (R135). A holder loaded after the urgent rung has begun is thus sent at the normal rung of the same ladder, where a row of
R147 has it wait for the next (log 29). -/
def State.usesRung (s : State) (k : Fin 64) : Bool :=
  (k.val == s.rungOffset.val && s.urgentWork) || (k.val == 32 + s.rungOffset.val && (s.urgentWork || s.normalWork))

/-- The station may send: RUNNING, SYNCED and the medium IDLE (R136). -/
def State.maySend (s : State) : Bool :=
  s.cf.opState == .running && s.bp.sync == .synced && s.bp.medium == .idle

/-- The transmitter begins a frame: the medium carries it from now on, and the own receiver passes it over (R136, R140, R143;
log 17). -/
def State.drive (s : State) : State :=
  { s with bp := { s.bp.occupy .carrier with transmitter := .frame, assembly := .waitIdle } }

/-- A control frame leaves its holder and is in flight, unmarked (R138). -/
def State.sendControl (s : State) (c : ControlFrame) : State := State.drive { s with bp.inFlight := some ⟨c, false⟩ }

/-- A record is in the transmit slot, ON_MEDIUM (R74, R139). -/
def State.sendData (s : State) (r : TxRecord) : State := State.drive { s with bq.txSlot := .onMedium r false }

/-- A frame of data, in the order of R74: the WAITING frame, the head of the urgent BTQ, the head of the normal BTQ; nothing where
none stands. -/
def State.sendNextData (s : State) : State :=
  match s.bq.txSlot with
  | .waiting r => s.sendData r
  | .onMedium _ _ => s
  | .empty =>
    match s.bq.urgentQ, s.bq.normalQ with
    | r :: rs, _ => State.sendData { s with bq.urgentQ := rs } r
    | [], r :: rs => State.sendData { s with bq.normalQ := rs } r
    | [], [] => s

/-- What the station sends at its rung: the TAKEOVER holder, the ANNOUNCE holder, then data (R74, R136). -/
def State.sendNext (s : State) : State :=
  match s.eu.takeoverHolder, s.eu.announceHolder with
  | some t, _ => State.sendControl { s with eu.takeoverHolder := none } (.takeover t)
  | none, some a => State.sendControl { s with eu.announceHolder := none } (.announce a)
  | none, none => s.sendNextData

/-- In SYNCING the quiet count stands one slot short of 66, so that its expiry comes before anything else at the ladder (R144;
log 25). -/
def State.quietDue (s : State) : Bool := s.cf.opState == .syncing && decide (quietSlots ≤ s.bp.quietCount + 1)

/-- The quiet count after the slots that have passed, in SYNCING; its reaching 66 is QUIET_COUNT_EXPIRY (R144; log 25). -/
def State.stepQuiet (s : State) (slots : Nat) : State :=
  if s.cf.opState = .syncing then { s with bp.quietCount := min (quietSlots - 1) (s.bp.quietCount + slots) } else s

/-- A slot passes inside the gap: GAP with 2 slots left becomes GAP with 1, which the quiet count counts; at any other position no
slot is seen by itself (R134, R144; log 3, log 25). -/
def State.passSlot (s : State) : State :=
  if s.bp.ladder = .gap 2 ∧ ¬s.resetAsserted then { s.stepQuiet 1 with bp.ladder := .gap 1 } else s

/-- A rung begins: the position moves, and a station that may send and uses the rung sends (R134 to R136). -/
def State.beginRung (s : State) (k : Fin 64) : State :=
  let s' : State := { s.stepQuiet s.bp.ladder.slots with bp.ladder := .rung k }
  if s'.maySend && s'.usesRung k then s'.sendNext else s'

/-- RUNG_START: a rung of the ladder begins (R134, R136); where the quiet count is about to reach 66, its expiry comes first
(R144). -/
def execRungStart (s : State) : Host.Outcome State Fault Refusal :=
  takeEvent s (if s.bp.transmitter = .off ∧ ¬s.quietDue then s.bp.ladder.nextRung.map s.beginRung else none)

/-- QUIET_COUNT_EXPIRY: the quiet count reaches 66 in SYNCING; sync is gained with P unchanged (R144). -/
def execQuietCountExpiry (s : State) : Host.Outcome State Fault Refusal :=
  takeEvent s (
    if s.quietDue ∧ s.bp.medium = .idle then some (State.enterRunning { s with bp.quietCount := quietSlots })
    else none)

/-! ## Sending -/

/-- OWN_HEADER_SENT: P becomes the own station number (R137). -/
def execOwnHeaderSent (s : State) : Host.Outcome State Fault Refusal :=
  takeEvent s (if s.bp.transmitter = .frame then some { s with bp.pointer := s.cf.station } else none)

/-- CONTROL_FRAME_SENT: the frame in flight is cleared and TX_CONTROL counted (R138). -/
def execControlFrameSent (s : State) : Host.Outcome State Fault Refusal :=
  takeEvent s (
    if s.bp.transmitter = .frame ∧ s.bp.inFlight.isSome then
      some (State.count { s with bp.transmitter := .off, bp.inFlight := none } .txControl)
    else none)

/-- DATA_FRAME_SENT: the buffer by the push rule, the slot EMPTY, TX_DATA counted, marked or not (R75, R78, R139). -/
def execDataFrameSent (s : State) : Host.Outcome State Fault Refusal :=
  takeEvent s (
    if s.bp.transmitter = .frame ∧ s.bp.inFlight = none then
      match s.bq.txSlot with
      | .onMedium r _ =>
        some ((State.pushRule { s with bp.transmitter := .off, bq.txSlot := .empty } r.buf).count .txData)
      | .empty | .waiting _ => none
    else none)

/-- COLLISION: the frame stops, the jam is driven, COLLISIONS is counted and P becomes 31 (R141). -/
def execCollision (s : State) : Host.Outcome State Fault Refusal :=
  takeEvent s (
    if s.bp.transmitter = .frame then
      some (State.count { s with bp.transmitter := .jam, bp.pointer := 31, bp.medium := .collision } .collisions)
    else none)

/-- A control frame after its jam: back to its holder when that is still empty and the frame bears no drop mark, else dropped
(R113, R138). -/
def State.returnControl (s : State) (c : InFlight) : State :=
  let cleared : State := { s with bp.inFlight := none }
  if c.dropMark then cleared
  else match c.frame with
    | .announce a => if s.eu.announceHolder = none then { cleared with eu.announceHolder := some a } else cleared
    | .takeover t => if s.eu.takeoverHolder = none then { cleared with eu.takeoverHolder := some t } else cleared

/-- A data frame after its jam: a marked one is discarded without a step; else the attempt count steps, and the frame is kept
WAITING or, at 16, dropped (R75, R78, R139). -/
def State.returnData (s : State) (r : TxRecord) (marked : Bool) : State :=
  let emptied : State := { s with bq.txSlot := .empty }
  if marked then (emptied.count .roleDiscard).pushRule r.buf
  else if attemptLimit ≤ r.attempts + 1 then
    ((emptied.pushRule r.buf).count .excessDrops).notify .excessCollisions (word16 0 r.dest.code)
  else { s with bq.txSlot := .waiting { r with attempts := r.attempts + 1 } }

/-- The end of a frame taken as a collision, when its jam ends (R141). -/
def State.endJam (s : State) : State :=
  match s.bp.inFlight, s.bq.txSlot with
  | some c, _ => s.returnControl c
  | none, .onMedium r marked => s.returnData r marked
  | none, _ => s

/-- JAM_END: the transmitter goes OFF and the frame's end is taken as a collision (R138, R139, R141). -/
def execJamEnd (s : State) : Host.Outcome State Fault Refusal :=
  takeEvent s (
    if s.bp.transmitter = .jam then some (State.endJam { s with bp.transmitter := .off }) else none)

/-! ## Receiving -/

/-- Sync is gained where it was sought (R144). -/
def State.gainSync (s : State) : State := if s.cf.opState = .syncing then s.enterRunning else s

/-- The jam as an event of the three receiving states (R142). -/
def State.takeJam (s : State) : State :=
  State.gainSync (State.count { s with bp.assembly := .empty, bp.pointer := 31 } .jamsSeen)

/-- JAM_SEEN: collision sense with the transmitter OFF, once for each assertion (R142; log 18). -/
def execJamSeen (s : State) : Host.Outcome State Fault Refusal :=
  takeEvent s (
    if s.bp.transmitter = .off ∧ s.bp.medium ≠ .collision then
      let seen : State := { s with bp := s.bp.occupy .collision }
      some (if s.cf.opState.listens then seen.takeJam else seen)
    else none)

/-- The duplicate-station test, in RUNNING (R145). -/
def State.testDuplicate (s : State) (source : Station) : State :=
  if s.cf.opState = .running ∧ source = s.cf.station then
    (s.raiseAlarm .dupStation (word16 0 (byteOf s.cf.station))).enterSilent
  else s

/-- A good header: P becomes its source, sync may be gained, and the duplicate test is made (R137, R144, R145). -/
def State.goodHeader (s : State) (h : Vector Byte 9) : State :=
  (State.gainSync { s with bp.pointer := frameSource h, bp.assembly := .frame h }).testDuplicate (frameSource h)

/-- Byte 8 has arrived: header error or good header (R124 steps 1 and 2). -/
def State.takeHeader (s : State) (h : Vector Byte 9) : State :=
  if headerCheckPasses h then s.goodHeader h else State.count { s with bp.assembly := .waitIdle } .rxHeaderErr

/-- The receiver can judge a header now: a receiving state, the transmitter OFF, carrier, and no frame begun or passed over
(R143). -/
def State.watches (s : State) : Bool :=
  s.cf.opState.listens && s.bp.transmitter == .off && s.bp.assembly == .empty && s.bp.medium == .carrier

/-- HEADER_RECEIVED: byte 8 of a received frame arrives (R124, R137, R144, R145). -/
def execHeaderReceived (header : Vector Byte 9) (s : State) : Host.Outcome State Fault Refusal :=
  takeEvent s (if s.watches then some (s.takeHeader header) else none)

/-- A good DATA frame from another station: liveness, and in RUNNING a decision (R55, R89). -/
def State.takeData (s : State) (f : DataFrame) : State :=
  let alive := s.noteAlive f.source
  if alive.cf.opState = .running then alive.startBackplane f else alive

/-- A good frame is handed on unless its source is the own station (R83, R124 step 5). -/
def State.handOn (s : State) : FrameClass → State
  | .goodData f => if f.source = s.cf.station then s else s.takeData f
  | .goodAnnounce source a => if source = s.cf.station then s else s.takeAnnounce source a
  | .goodTakeover source t => if source = s.cf.station then s else s.takeTakeover source t
  | .frameError | .formatError => s

/-- The counter of a class (R124, R143). -/
def FrameClass.counter : FrameClass → Counter
  | .frameError => .rxFrameErr
  | .formatError => .rxFormatErr
  | .goodData _ | .goodAnnounce _ _ | .goodTakeover _ _ => .rxGood

/-- A frame whose header was good ends: it is classed, counted and, if good, handed on (R124 steps 3 to 5). -/
def State.takeFrame (s : State) (h : Vector Byte 9) (rest : List Byte) : State :=
  (State.count { s with bp.assembly := .waitIdle } (classify h rest).counter).handOn (classify h rest)

/-- FRAME_RECEIVED: a frame with a good header ends after the bytes `rest` (R124, R143). -/
def execFrameReceived (rest : List Byte) (s : State) : Host.Outcome State Fault Refusal :=
  takeEvent s (match s.bp.assembly with
    | .frame h => some (s.takeFrame h rest)
    | .empty | .waitIdle => none)

end Sys2Proof.Machine
end

