-- ==== Sys2Proof/Machine/CardLink.lean ====
section
/-! DEFINITION. The card link port: messages received, its timers, and the ends of the messages it sends (chapter 9). -/

namespace Sys2Proof.Machine

/-! ## DATA_OUT -/

/-- The body, as far as it has arrived, is written into the buffer the DATA_OUT took, and nowhere where it took none (R69, R149). -/
def State.storeBody (s : State) (mode : DataOutMode) (body : List Byte) : State :=
  match mode with
  | .into b => s.writeBuffer b (storedPayload body)
  | .stale | .overrun => s

/-- The receiver goes to the body of a DATA_OUT; the buffer it takes becomes RECEIVING (R69, R155). -/
def State.receiveDataOut (s : State) (h : LinkHeader) (arrived : List Byte) : State :=
  let mode := s.dataOutMode
  let taken := match mode with
    | .into b => s.setReserve b .receiving
    | .stale | .overrun => s
  { taken.storeBody mode arrived with cl.receiver := .body h arrived mode }

/-- The receiver goes to BODY after a good header, with the bytes of the body that have arrived; none beyond its length belongs to
it (R149). -/
def State.receiveHeader (s : State) (h : LinkHeader) (arrived : List Byte) : State :=
  if h.type = typeDataOut then s.receiveDataOut h (arrived.take h.length)
  else { s with cl.receiver := .other h (arrived.take h.length) }

/-- DATA_OUT_HEADER: a good header, of type DATA_OUT or of another (R69, R149, R155; log 15). -/
def execDataOutHeader (header : LinkHeader) (arrived : List Byte) (s : State) : Host.Outcome State Fault Refusal :=
  takeEvent s (if s.awaitsHeader (linkHeaderBytes header) then some (s.receiveHeader header arrived) else none)

/-- An accepted DATA_OUT whose check passed: the lost buffers freed, the frame HELD, its decision started (R41, R69, R70, R156). -/
def State.holdDataOut (s : State) (tag : Byte) (b : BufNo) (lost : Nat) (body : List Byte) : State :=
  ((s.acceptSequence tag lost).setReserve b .held).startCard b body

/-- A DATA_OUT refused by the sequence check: its buffer is OPEN again in its place (R69, R156). -/
def State.refuseSequence (s : State) (b : BufNo) (cause : Nat) (tag : Byte) : State :=
  (s.setReserve b .opened).refuse cause tag

/-- A DATA_OUT of good check taken by its mode: nothing when stale, an overrun, or the sequence check (R155, R156). -/
def State.takeDataOut (s : State) (tag : Byte) (mode : DataOutMode) (body : List Byte) : State :=
  match mode with
  | .stale => s
  | .overrun => s.refuse 2 tag
  | .into b =>
    match s.judgeSequence tag with
    | .refused cause => s.refuseSequence b cause tag
    | .accepted lost => s.holdDataOut tag b lost body

/-- DATA_OUT: the DATA_OUT being received ends with its check passed (R150, R155, R156). -/
def execDataOut (body : List Byte) (s : State) : Host.Outcome State Fault Refusal :=
  takeEvent s (match s.cl.receiver with
    | .body h got mode =>
      if endsAs h.length got body then some ((s.goodMessage.storeBody mode body).takeDataOut h.tag mode body) else none
    | .hunt | .header _ | .other _ _ => none)

/-- A DATA_OUT of failed check by its mode: a refusal counts LINK_PROTO_ERR alone; an accepted one has used its credit, and its
buffer leaves the reserve by the push rule (R69, R150, R155, R156). -/
def State.takeBadDataOut (s : State) (tag : Byte) : DataOutMode → State
  | .stale => s.count .linkMsgErr
  | .overrun => s.refuse 2 tag
  | .into b =>
    match s.judgeSequence tag with
    | .refused cause => s.refuseSequence b cause tag
    | .accepted lost => ((s.acceptSequence tag lost).releaseReserve b).count .linkMsgErr

/-- MESSAGE_BAD_CHECK: the message being received, whole, fails its check; it neither restarts the link-hold timer nor brings the link
UP (R150). -/
def execMessageBadCheck (s : State) : Host.Outcome State Fault Refusal :=
  let next : State := { s with cl.receiver := .header [] }
  takeEvent s (match s.cl.receiver with
    | .body h got mode => if got.length = h.length.val then some (next.takeBadDataOut h.tag mode) else none
    | .other h got => if got.length = h.length.val then some (next.count .linkMsgErr) else none
    | .hunt | .header _ => none)

/-! ## The other messages -/

/-- A REQUEST offered: queued, answered BUSY, or discarded with LINK_PROTO_ERR (R161, R164). -/
def State.offerRequest (s : State) (tag : Byte) (body : List Byte) : State :=
  if s.me.queue.length < requestDepth then
    { s with me := { s.me with queue := s.me.queue ++ [Request.mk tag body] }.takeNext s.cf.opState }
  else if s.cl.busyCount < busyDepth then
    { s with cl.responses := s.cl.responses ++ [⟨tag, responseBody .busy body [], false⟩] }
  else s.count .linkProtoErr

/-- REQUEST: the REQUEST being received ends, its check passed (R150, R161). -/
def execRequest (tag : Byte) (body : List Byte) (s : State) : Host.Outcome State Fault Refusal :=
  takeEvent s (
    if (s.endingMessage body).any fun h => h.type == typeRequest && h.tag == tag then some (s.goodMessage.offerRequest tag body)
    else none)

/-- The accept total is taken where it leaves an allowance of 64 or less, else refused with cause 3 (R157). -/
def State.takeAccept (s : State) (total : Byte) : State :=
  if (total - s.cl.deliveredTotal).toNat ≤ allowanceLimit then { s with cl.acceptTotal := total } else s.refuse 3 total

/-- RECEIVE_READY: the RECEIVE_READY being received, of length 1, ends with the accept total, its check passed (R150, R157). -/
def execReceiveReady (total : Byte) (s : State) : Host.Outcome State Fault Refusal :=
  takeEvent s (
    if (s.endingMessage [total]).any fun h => h.type == typeReceiveReady then some (s.goodMessage.takeAccept total) else none)

/-- IDLE: the IDLE being received, of length 0, ends, its check passed; it only restarts the link-hold timer, or brings the link UP
(R150, R151). -/
def execIdle (s : State) : Host.Outcome State Fault Refusal :=
  takeEvent s (if (s.endingMessage []).any fun h => h.type == typeIdle then some s.goodMessage else none)

/-- UNUSABLE_MESSAGE: the message being received ends, its check passed, and is discarded for its type or its length, with
LINK_MSG_ERR (R126, R150). -/
def execUnusableMessage (type : Byte) (length : Fin 271) (s : State) : Host.Outcome State Fault Refusal :=
  takeEvent s (match s.cl.receiver with
    | .other h _ =>
      if h.type = type ∧ h.length = length ∧ isUnusable type length then some (s.goodMessage.count .linkMsgErr) else none
    | .hunt | .header _ | .body _ _ _ => none)

/-- The bytes from the first sync on. -/
def fromSync : List Byte → List Byte
  | [] => []
  | b :: bs => if b = linkSync then b :: bs else fromSync bs

/-- The receiver after a header that is not good: it hunts from the byte after the one that began it, through the bytes already
gathered (R149). -/
def rescan (bytes : List Byte) : Receiver :=
  match fromSync bytes.tail with
  | [] => .hunt
  | b :: bs => .header (b :: bs)

/-- LINK_HEADER_REJECTED: a header is not good, which counts nothing (R149). -/
def execLinkHeaderRejected (bytes : List Byte) (s : State) : Host.Outcome State Fault Refusal :=
  takeEvent s (if s.awaitsHeader bytes then some { s with cl.receiver := rescan bytes } else none)

/-! ## Timers -/

/-- LINK_HOLD_EXPIRY: the link goes DOWN (R152, R173). -/
def execLinkHoldExpiry (straps : Station) (s : State) : Host.Outcome State Fault Refusal :=
  takeEvent s (if s.cl.link = .up then some (s.linkDown straps) else none)

/-- The timer is running and has not expired. -/
def Timer.ticking : Timer → Bool
  | .stopped | .running 0 => false
  | .running (_ + 1) => true

/-- IDLE_TIMER_EXPIRY: an IDLE becomes ready (R159; log 22). -/
def execIdleTimerExpiry (s : State) : Host.Outcome State Fault Refusal :=
  takeEvent s (
    if s.cl.link = .up ∧ s.cl.idleTimer.ticking then some { s with cl.idleTimer := .running 0 } else none)

/-! ## Messages sent -/

/-- The delivery slot is emptied and its buffer released by the push rule (R76). -/
def State.emptyDeliverySlot (s : State) : State :=
  match s.bq.deliverySlot with
  | some r => State.pushRule { s with bq.deliverySlot := none } r.buf
  | none => s

/-- The delivered total advances, unless the link has gone DOWN since the DATA_IN began (R158). -/
def CardLink.advanceDelivered (c : CardLink) (straddled : Bool) : CardLink :=
  if straddled then c else { c with deliveredTotal := c.deliveredTotal + 1 }

/-- A DATA_IN has been sent (R76, R158). -/
def State.endDataIn (s : State) (straddled : Bool) : State :=
  let sent := (s.messageSent.emptyDeliverySlot).count .delivered
  { sent with cl := sent.cl.advanceDelivered straddled }

/-- DATA_IN_END: the last byte of a DATA_IN is sent (R158). -/
def execDataInEnd (s : State) : Host.Outcome State Fault Refusal :=
  takeEvent s (match s.cl.tx with
    | some (.dataIn _ _ straddled) => some (s.endDataIn straddled)
    | _ => none)

/-- A RESPONSE has been sent: the engine's own finishes its request, or begins the warm restart a RESTART asks for; a BUSY answer
does nothing further (R165, R173). -/
def State.endResponse (s : State) (r : Response) (straps : Station) : State :=
  if r.fromEngine then
    match s.me.stage with
    | .waitSend true => s.messageSent.warmRestart straps
    | .waitSend false => s.messageSent.finishRequest
    | .idle | .taken _ | .waitWalk => s.messageSent
  else s.messageSent

/-- RESPONSE_END: the last byte of a RESPONSE is sent (R165, R173). -/
def execResponseEnd (straps : Station) (s : State) : Host.Outcome State Fault Refusal :=
  takeEvent s (match s.cl.tx with
    | some (.response r) => some (s.endResponse r straps)
    | _ => none)

/-- STATUS_END: the last byte of a STATUS is sent; one with restart flag 1 closes the restart window (R153). -/
def execStatusEnd (s : State) : Host.Outcome State Fault Refusal :=
  takeEvent s (match s.cl.tx with
    | some (.status _ _ _ restart) =>
      some (if restart then { s.messageSent with cl.restartWindow := false } else s.messageSent)
    | _ => none)

/-- A CREDIT, an EVENT or an IDLE. -/
def OutMessage.isPlain : OutMessage → Bool
  | .credit _ | .event _ | .idle => true
  | .status _ _ _ _ | .response _ | .dataIn _ _ _ => false

/-- MESSAGE_END: the last byte of a CREDIT, EVENT or IDLE is sent (R159). -/
def execMessageEnd (s : State) : Host.Outcome State Fault Refusal :=
  takeEvent s (if s.cl.tx.any OutMessage.isPlain then some s.messageSent else none)

end Sys2Proof.Machine
end

