-- ==== Sys2Proof/Machine/Election.lean ====
section
/-! DEFINITION. The timers of the peer table and of the election unit (R90 to R92, R107). -/

namespace Sys2Proof.Machine

/-- ANNOUNCE_TIMER_EXPIRY: missed counts step, peers at 4 are removed and reported, the own ANNOUNCE is loaded (R90 to R92). -/
def execAnnounceTimerExpiry (s : State) : Host.Outcome State Fault Refusal :=
  takeEvent s (if s.pt.announceTimer = .stopped then none else some s.agePeers)

/-- The role the listen period ends in (R107). -/
def State.endListening (s : State) : State :=
  let stopped : State := { s with eu.listenTimer := .stopped }
  if stopped.winsListen then stopped.becomeDesignated else stopped.becomeStandby

/-- LISTEN_TIMER_EXPIRY: a LISTENING station takes STANDBY or DESIGNATED (R107). -/
def execListenTimerExpiry (s : State) : Host.Outcome State Fault Refusal :=
  takeEvent s (if s.eu.role = .listening ∧ s.eu.listenTimer ≠ .stopped then some s.endListening else none)

end Sys2Proof.Machine
end

