-- ==== Sys2Proof/Machine/Management.lean ====
section
/-! DEFINITION. The ten management requests and BAD_REQUEST (chapter 10). Each runs on the current request, taken and not yet
executed; the argument bytes are those of R129. -/

namespace Sys2Proof.Machine

/-! ## Location table requests -/

/-- READ_ENTRY's claim and answer (R17, R167). -/
def State.doReadEntry (s : State) : List Byte → State
  | [hi, lo] =>
    let e := word16 hi lo
    let b := bucketFor s.lt e
    match findWay b e with
    | some w => s.answer .ok ((b[w].map (entryRecord w)).getD [])
    | none => s.answer .notFound []
  | _ => s

/-- READ_ENTRY (R167). -/
def execReadEntry (s : State) : Host.Outcome State Fault Refusal :=
  takeEvent s (s.execute .readEntry State.doReadEntry)

/-- The entry records of a bucket in rising way order (R17, R130). -/
def bucketRecords (b : Bucket) : List Byte := allWays.flatMap fun w => (b[w].map (entryRecord w)).getD []

/-- READ_BUCKET's claim and answer (R17, R167). -/
def State.doReadBucket (s : State) : List Byte → State
  | [n] =>
    let b := s.lt[n.toFin]
    s.answer .ok (n :: byteOf (countEntries (fun _ => true) b) :: bucketRecords b)
  | _ => s

/-- READ_BUCKET (R167). -/
def execReadBucket (s : State) : Host.Outcome State Fault Refusal :=
  takeEvent s (s.execute .readBucket State.doReadBucket)

/-- ADD_STATIC's claim on its bucket: the way written, or TABLE_FULL (R15, R168). -/
def State.claimStatic (s : State) (e : Eid) (z : Zone) (p : Place) : State :=
  let b := bucketFor s.lt e
  match staticWay b e with
  | some w =>
    State.answer { s with lt := putBucket s.lt (bucketOf e) (putEntry b w (staticEntry e z p)) } .ok [byteOf w]
  | none => s.answer .tableFull []

/-- ADD_STATIC's argument checks, then its claim (R168). -/
def State.doAddStatic (s : State) : List Byte → State
  | [hi, lo, zone, place] =>
    match zoneOfByte zone, placeOfCode place with
    | some z, some p =>
      if word16 hi lo = broadcast ∨ p = .station s.cf.station then s.answer .badArgument []
      else s.claimStatic (word16 hi lo) z p
    | _, _ => s.answer .badArgument []
  | _ => s

/-- ADD_STATIC (R168). -/
def execAddStatic (s : State) : Host.Outcome State Fault Refusal :=
  takeEvent s (s.execute .addStatic State.doAddStatic)

/-- REMOVE's claim and answer (R16, R168). -/
def State.doRemove (s : State) : List Byte → State
  | [hi, lo] =>
    let e := word16 hi lo
    let b := bucketFor s.lt e
    match findWay b e with
    | some w => State.answer { s with lt := putBucket s.lt (bucketOf e) (clearWay b w) } .ok [byteOf w]
    | none => s.answer .notFound []
  | _ => s

/-- REMOVE (R168). -/
def execRemove (s : State) : Host.Outcome State Fault Refusal :=
  takeEvent s (s.execute .remove State.doRemove)

/-- FLUSH's argument checks, then the hand-over to the walker; the answer waits for the walk (R26, R169). -/
def State.doFlush (s : State) : List Byte → State
  | [scope, value] =>
    match scopeOfArgs s.cf.station scope value with
    | some f => { s with tw := s.tw.handFlush f, me.stage := .waitWalk }
    | none => s.answer .badArgument []
  | _ => s

/-- FLUSH (R169). -/
def execFlush (s : State) : Host.Outcome State Fault Refusal :=
  takeEvent s (s.execute .flush State.doFlush)

/-! ## Peer and status requests -/

/-- READ_PEER's argument check and answer (R170). -/
def State.doReadPeer (s : State) : List Byte → State
  | [n] =>
    match stationOfByte n with
    | some m =>
      if m = s.cf.station then s.answer .badArgument []
      else match s.pt.peers[m] with
        | some p => s.answer .ok (peerRecord m p)
        | none => s.answer .notFound []
    | none => s.answer .badArgument []
  | _ => s

/-- READ_PEER (R170). -/
def execReadPeer (s : State) : Host.Outcome State Fault Refusal :=
  takeEvent s (s.execute .readPeer State.doReadPeer)

/-- READ_STATUS (R170). -/
def execReadStatus (s : State) : Host.Outcome State Fault Refusal :=
  takeEvent s (s.execute .readStatus fun t _ => t.answer .ok t.statusRecord)

/-! ## Counters and alarms -/

/-- READ_COUNTERS's argument checks, the read, and with clear 1 the clearing (R171). -/
def State.doReadCounters (s : State) : List Byte → State
  | [first, count, clear] =>
    if 28 < first.toNat + count.toNat ∨ 1 < clear.toNat then s.answer .badArgument []
    else
      let results := first :: count :: s.ec.counterRange first.toNat count.toNat
      if clear = 1 then State.answer { s with ec := s.ec.clearRange first.toNat count.toNat } .ok results
      else s.answer .ok results
  | _ => s

/-- READ_COUNTERS (R171). -/
def execReadCounters (s : State) : Host.Outcome State Fault Refusal :=
  takeEvent s (s.execute .readCounters State.doReadCounters)

/-- ACK_EVENT's argument check and the acknowledgement (R172). -/
def State.doAckEvent (s : State) : List Byte → State
  | [code] =>
    match alarmOfCode code with
    | some k => State.answer { s with ec := s.ec.acknowledge k } .ok []
    | none => s.answer .badArgument []
  | _ => s

/-- ACK_EVENT (R172). -/
def execAckEvent (s : State) : Host.Outcome State Fault Refusal :=
  takeEvent s (s.execute .ackEvent State.doAckEvent)

/-! ## RESTART and BAD_REQUEST -/

/-- RESTART: OK at once, its end starting the warm restart; a RESTART whose link went DOWN before its execution begins it in this
event (R173; log 13). -/
def State.doRestart (s : State) (straps : Station) : State :=
  if s.me.discardMark then s.warmRestart straps else s.respond .ok [] true

/-- RESTART (R173). -/
def execRestart (straps : Station) (s : State) : Host.Outcome State Fault Refusal :=
  takeEvent s (s.execute .restart fun t _ => t.doRestart straps)

/-- BAD_REQUEST: the current request has no form of R129 (R165 step 1). -/
def execBadRequest (s : State) : Host.Outcome State Fault Refusal :=
  takeEvent s (match s.takenRequest with
    | some (r, _) => if requestForm r.body = none then some (s.answer .badRequest []) else none
    | none => none)

end Sys2Proof.Machine
end

