-- ==== Sys2Proof/Machine/StartUp.lean ====
section
/-! DEFINITION. Start-up: device reset, the reading of the configuration image and the end of LOADING (chapter 12). -/

namespace Sys2Proof.Machine

/-- DEVICE_RESET: RESET is asserted and every block holds its device-reset values; the strap number is read anew only at the
release (R183; log 1). -/
def execDeviceReset (s : State) : Host.Outcome State Fault Refusal :=
  .next { State.reset with resetAsserted := true, cf := { State.reset.cf with station := s.cf.station }, pending := s.pending }

/-- RESET_RELEASE: LOADING, with the straps read (R183). -/
def execResetRelease (straps : Station) (s : State) : Host.Outcome State Fault Refusal :=
  .next { State.reset with cf := { State.reset.cf with station := straps }, pending := s.pending }

/-- The image is rejected: CONFIG_FAULT with its alarm, LINK_HOLD 50, and a STATUS pending (R148, R185). -/
def State.rejectImage (s : State) (reason low : Nat) : State :=
  State.raiseAlarm
    (State.setOpState { s with cf.image := [], cf.config := none, cl.linkHold := defaultLinkHold } .configFault)
    .configFault (word16 (byteOf reason) (byteOf low))

/-- The receiver at the end of LOADING: carrier already on the medium is not judged, and the receiver waits for it to end
(R143, R186). -/
def BusPort.startSeeking (b : BusPort) : BusPort :=
  { b with sync := .seeking, quietCount := 0, assembly := if b.medium = .idle then .empty else .waitIdle }

/-- The end of LOADING with a configuration and its static records (R186). -/
def State.endLoading (s : State) (config : Config) (statics : List StaticRecord) : State :=
  State.setOpState
    { s with
      cf.config := some config
      cf.image := []
      lt := placeStatics statics s.lt
      cl.linkHold := config.linkHold
      bp := s.bp.startSeeking }
    .syncing

/-- The image judged as far as it has been read: checks 1 and 2 at the end of the fixed part, the others at the end of the
checksum (R184, R185). -/
def State.judgeImage (s : State) (image : List Byte) : State :=
  if image.length < fixedPart then { s with cf.image := image }
  else match checkFixedPart image with
    | some (reason, low) => s.rejectImage reason low
    | none =>
      if image.length < imageLength (staticCount image) then { s with cf.image := image }
      else match checkImage s.cf.station image with
        | .error (reason, low) => s.rejectImage reason low
        | .ok (config, statics) => s.endLoading config statics

/-- The end of one byte read: a byte joins the image; no acknowledgement of byte 0 gives the defaults, and of a later byte
reason 8 (R184). -/
def State.byteRead (s : State) (answer : Option Byte) : State :=
  match answer, s.cf.image with
  | some b, image => s.judgeImage (image ++ [b])
  | none, [] => s.endLoading (Config.defaults s.cf.station) []
  | none, _ :: _ => s.rejectImage 8 0

/-- CONFIG_BYTE_READ: one byte read of the configuration memory ends, in LOADING alone (R184 to R186). -/
def execConfigByteRead (answer : Option Byte) (s : State) : Host.Outcome State Fault Refusal :=
  takeEvent s (if s.cf.opState = .loading then some (s.byteRead answer) else none)

end Sys2Proof.Machine
end

