-- ==== Sys2Proof/Machine/WalkerEvents.lean ====
section
/-! DEFINITION. The table walker's events: the sweep timer and the bucket visit (chapter 2). -/

namespace Sys2Proof.Machine

/-- SWEEP_TIMER_EXPIRY: the timer is reloaded, and a sweep is raised or merged (R27, R28). -/
def execSweepTimerExpiry (s : State) : Host.Outcome State Fault Refusal :=
  takeEvent s (
    if s.tw.sweepTimer = .stopped then none
    else some { s with tw := { s.tw with sweepTimer := .running s.conf.sweepPeriod }.raiseSweep })

/-- One visit of the job to the bucket at the cursor (R18, R31, R32, R34). -/
def State.visit (s : State) (j : Job) : State :=
  let n := s.tw.cursor
  let b := s.lt[n]
  match j with
  | .internalFlush places => { s with lt := putBucket s.lt n (flushBucket (internalTest places) b) }
  | .managementFlush scope removed =>
    { s with
      lt := putBucket s.lt n (flushBucket (scopeTest scope) b)
      tw.job := some (.managementFlush scope (removed + countEntries (scopeTest scope) b)) }
  | .sweep =>
    State.countN { s with lt := putBucket s.lt n (sweepBucket s.conf.ageLimit b) } .agedOut
      (countEntries (agedTest s.conf.ageLimit) b)

/-- The job completes: the removed count is handed over, the engine is IDLE at cursor 0, and the next pending job starts (R30,
R33). -/
def State.completeJob (s : State) : State :=
  let idle : State := { s with tw := { s.tw with job := none, cursor := 0 }.startNext }
  match s.tw.job with
  | some (.managementFlush _ removed) => idle.flushDone removed
  | some (.internalFlush _) | some .sweep | none => idle

/-- The cursor moves on, or the job completes after bucket 255 (R30). -/
def State.advanceCursor (s : State) : State :=
  if s.tw.cursor = 255 then s.completeJob else { s with tw.cursor := s.tw.cursor + 1 }

/-- BUCKET_VISIT: the running job visits the bucket at the cursor (R30). -/
def execBucketVisit (s : State) : Host.Outcome State Fault Refusal :=
  takeEvent s (s.tw.job.map fun j => (s.visit j).advanceCursor)

end Sys2Proof.Machine
end

