-- ==== Sys2Proof/Machine/Dispatch.lean ====
section
/-! DEFINITION. The meaning of every command, one arm for each row of spec/opcode_table.json. -/

namespace Sys2Proof.Machine

/-- The outcome of a command on the part, its queue left alone. -/
def exec (i : Instr) (s : State) : Host.Outcome State Fault Refusal :=
  match i with
  | .deviceReset => Sys2Proof.Machine.execDeviceReset s
  | .resetRelease straps => Sys2Proof.Machine.execResetRelease straps s
  | .configByteRead answer => Sys2Proof.Machine.execConfigByteRead answer s
  | .mediumGoesIdle truncated => Sys2Proof.Machine.execMediumGoesIdle truncated s
  | .mediumLeavesIdle => Sys2Proof.Machine.execMediumLeavesIdle s
  | .rungStart => Sys2Proof.Machine.execRungStart s
  | .quietCountExpiry => Sys2Proof.Machine.execQuietCountExpiry s
  | .ownHeaderSent => Sys2Proof.Machine.execOwnHeaderSent s
  | .controlFrameSent => Sys2Proof.Machine.execControlFrameSent s
  | .dataFrameSent => Sys2Proof.Machine.execDataFrameSent s
  | .collision => Sys2Proof.Machine.execCollision s
  | .jamEnd => Sys2Proof.Machine.execJamEnd s
  | .jamSeen => Sys2Proof.Machine.execJamSeen s
  | .headerReceived header => Sys2Proof.Machine.execHeaderReceived header s
  | .frameReceived rest => Sys2Proof.Machine.execFrameReceived rest s
  | .announceTimerExpiry => Sys2Proof.Machine.execAnnounceTimerExpiry s
  | .listenTimerExpiry => Sys2Proof.Machine.execListenTimerExpiry s
  | .dataOutHeader header arrived => Sys2Proof.Machine.execDataOutHeader header arrived s
  | .dataOut body => Sys2Proof.Machine.execDataOut body s
  | .request tag body => Sys2Proof.Machine.execRequest tag body s
  | .receiveReady total => Sys2Proof.Machine.execReceiveReady total s
  | .idle => Sys2Proof.Machine.execIdle s
  | .unusableMessage type length => Sys2Proof.Machine.execUnusableMessage type length s
  | .messageBadCheck => Sys2Proof.Machine.execMessageBadCheck s
  | .linkHeaderRejected bytes => Sys2Proof.Machine.execLinkHeaderRejected bytes s
  | .linkHoldExpiry straps => Sys2Proof.Machine.execLinkHoldExpiry straps s
  | .idleTimerExpiry => Sys2Proof.Machine.execIdleTimerExpiry s
  | .dataInEnd => Sys2Proof.Machine.execDataInEnd s
  | .responseEnd straps => Sys2Proof.Machine.execResponseEnd straps s
  | .statusEnd => Sys2Proof.Machine.execStatusEnd s
  | .messageEnd => Sys2Proof.Machine.execMessageEnd s
  | .readEntry => Sys2Proof.Machine.execReadEntry s
  | .readBucket => Sys2Proof.Machine.execReadBucket s
  | .addStatic => Sys2Proof.Machine.execAddStatic s
  | .remove => Sys2Proof.Machine.execRemove s
  | .flush => Sys2Proof.Machine.execFlush s
  | .readPeer => Sys2Proof.Machine.execReadPeer s
  | .readStatus => Sys2Proof.Machine.execReadStatus s
  | .readCounters => Sys2Proof.Machine.execReadCounters s
  | .ackEvent => Sys2Proof.Machine.execAckEvent s
  | .restart straps => Sys2Proof.Machine.execRestart straps s
  | .badRequest => Sys2Proof.Machine.execBadRequest s
  | .sweepTimerExpiry => Sys2Proof.Machine.execSweepTimerExpiry s
  | .bucketVisit => Sys2Proof.Machine.execBucketVisit s
  | .learn side index => Sys2Proof.Machine.execLearn side index s
  | .lookup side index => Sys2Proof.Machine.execLookup side index s
  | .btqHandover => Sys2Proof.Machine.execBtqHandover s
  | .deliveryHandover => Sys2Proof.Machine.execDeliveryHandover s

end Sys2Proof.Machine
end

