-- ==== Sys2Proof/Safety.lean ====
section
/-! DEFINITION. What a safe part is: the laws the spec states of every state, as predicates on State, block by block. -/

namespace Sys2Proof.Machine

/-! ## The buffer pool -/

/-- The buffer of the transmit slot. -/
def TxSlot.bufs : TxSlot → List BufNo
  | .empty => []
  | .onMedium r _ | .waiting r => [r.buf]

/-- The buffer numbers of the seven holders together (R63). -/
def State.holders (s : State) : List BufNo :=
  s.bq.free ++ s.bq.reserve.map ReserveBuf.num ++ s.bq.urgentQ.map TxRecord.buf ++ s.bq.normalQ.map TxRecord.buf ++
    s.bq.txSlot.bufs ++ s.bq.deliveryQ.map RxRecord.buf ++ s.bq.deliverySlot.toList.map RxRecord.buf

/-- The holders together hold each of the 64 buffers exactly once (R63). -/
def State.poolWhole (s : State) : Prop := ∀ b : BufNo, s.holders.count b = 1

/-- The queues keep to their depths (R73, R76). -/
def State.depthsKept (s : State) : Prop :=
  s.bq.urgentQ.length ≤ urgentDepth ∧ s.bq.normalQ.length ≤ normalDepth ∧ s.bq.deliveryQ.length ≤ deliveryDepth

/-- The transmit slot holds nothing but a frame marked for release without retry (R77, R78). -/
def TxSlot.leaving : TxSlot → Bool
  | .empty => true
  | .onMedium _ marked => marked
  | .waiting _ => false

/-- While the role is not DESIGNATED no data frame waits in a BTQ, the delivery queue or the transmit slot, but for the one marked
frame on the medium (R77). -/
def State.holdsNothing (s : State) : Prop :=
  s.eu.role ≠ .designated →
    s.bq.urgentQ = [] ∧ s.bq.normalQ = [] ∧ s.bq.deliveryQ = [] ∧ s.bq.txSlot.leaving = true

/-- The attempt counts: 0 in a BTQ, below 16 in the slot between jams (R73, R75). -/
def State.attemptsKept (s : State) : Prop :=
  (∀ r ∈ s.bq.urgentQ ++ s.bq.normalQ, r.attempts = 0) ∧
    (match s.bq.txSlot with
      | .empty => True
      | .onMedium r _ => r.attempts < attemptLimit
      | .waiting r => r.attempts < attemptLimit)

/-! ## The credit reserve -/

/-- No credit can be outstanding: the link DOWN, or a state before RUNNING (R66, R187). -/
def State.noCredit (s : State) : Bool :=
  s.cl.link == .down || s.cf.opState == .loading || s.cf.opState == .configFault || s.cf.opState == .syncing

/-- The reserve keeps to LOCAL_CREDITS and is empty where no credit can be outstanding (R66). -/
def State.reserveKept (s : State) : Prop :=
  s.bq.reserve.length ≤ s.conf.localCredits ∧ (s.noCredit = true → s.bq.reserve = [])

/-- The buffers of the reserve in a state. -/
def State.reserveIn (s : State) (st : ReserveState) : List BufNo :=
  (s.bq.reserve.filter fun r => r.state == st).map ReserveBuf.num

/-- The buffer the receiver writes into. -/
def Receiver.buffer : Receiver → List BufNo
  | .body _ _ (.into b) => [b]
  | .body _ _ .stale | .body _ _ .overrun | .hunt | .header _ | .other _ _ => []

/-- The buffers the card decisions hold. -/
def State.holds (s : State) : List BufNo := s.fe.card.filterMap (·.hold)

/-- The RECEIVING buffer is the one a DATA_OUT is received into, and the HELD buffers are those the decisions under way hold, each
by one decision (R66, R71). -/
def State.reserveMatches (s : State) : Prop :=
  s.reserveIn .receiving = s.cl.receiver.buffer ∧ (s.reserveIn .held).Perm s.holds

/-! ## The segment role -/

/-- The role is DISABLED exactly while the station is not RUNNING or its card link is DOWN (R66 note, R98). -/
def State.roleKept (s : State) : Prop :=
  s.eu.role ≠ .disabled ↔ s.cf.opState = .running ∧ s.cl.link = .up

/-- An unmarked TAKEOVER. -/
def InFlight.keepsTakeover (c : InFlight) : Bool :=
  match c.frame with
  | .takeover _ => !c.dropMark
  | .announce _ => false

/-- The listen timer runs exactly in LISTENING, and a TAKEOVER waits, or is being sent without a drop mark, only in DESIGNATED
(R104, R107, R113). -/
def State.electionKept (s : State) : Prop :=
  (s.eu.listenTimer ≠ .stopped ↔ s.eu.role = .listening) ∧ (s.eu.takeoverHolder ≠ none → s.eu.role = .designated) ∧
    (s.bp.inFlight.any InFlight.keepsTakeover = true → s.eu.role = .designated)

/-! ## The peer table -/

/-- A peer entry's values lie in their ranges (R81). -/
def Peer.inRange (p : Peer) : Prop :=
  p.segment ≤ 63 ∧ p.preference ≤ 15 ∧ p.zones ≠ 0 ∧ 1 ≤ p.interval ∧ p.interval ≤ 100 ∧ p.missed < missedLimit

/-- The peer table never holds the own station number, and every entry is in range (R81). -/
def State.peersKept (s : State) : Prop :=
  s.pt.peers[s.cf.station] = none ∧ ∀ n : Station, ∀ p ∈ s.pt.peers[n], p.inRange

/-! ## The location table -/

/-- An entry as R1 and R3 want it: no BROADCAST, not the own station's place, age 0 if STATIC and at most AGE_LIMIT if DYNAMIC. -/
def State.entryKept (s : State) (x : Entry) : Prop :=
  x.eid ≠ broadcast ∧ x.place ≠ .station s.cf.station ∧ x.age ≤ (if x.kind = .static then 0 else s.conf.ageLimit)

/-- Every entry is in its own bucket and as R1 and R3 want it, and no bucket holds an EID twice (R2). -/
def State.tableKept (s : State) : Prop :=
  ∀ n : BucketNo, ∀ w : Way, ∀ x ∈ s.lt[n][w],
    bucketOf x.eid = n ∧ s.entryKept x ∧ ∀ v : Way, ∀ y ∈ s.lt[n][v], y.eid = x.eid → v = w

/-- No decision under way learns BROADCAST (R8, R43, R124). -/
def State.learnsKept (s : State) : Prop :=
  (∀ d ∈ s.fe.card, ∀ f, d.stage = .learn f → f.srcEid ≠ broadcast) ∧
    ∀ d ∈ s.fe.backplane, ∀ f p, d.stage = .learn f p → f.srcEid ≠ broadcast

/-- The card decision is a discard. -/
def CardStage.isDiscard : CardStage → Bool
  | .discard _ => true
  | .learn _ | .lookup _ | .peer _ _ | .flood _ | .handover _ _ => false

/-- A decision whose turn has come has ended: the oldest of either side is not over (R39). -/
def State.headsKept (s : State) : Prop :=
  (s.fe.card.head?.any fun d => d.stage.isDiscard) = false ∧ s.fe.backplane.head?.any BackplaneDecision.isOver = false

/-! ## The configuration -/

/-- The configured items lie in the ranges of section 12.4. -/
def configInRange (c : Config) : Prop :=
  c.segment ≤ 63 ∧ c.preference ≤ 15 ∧ c.zones ≠ 0 ∧ 1 ≤ c.interval ∧ c.interval ≤ 100 ∧ 5 ≤ c.linkHold ∧ c.linkHold ≤ 255 ∧
    c.sweepPeriod ≤ 255 ∧ 1 ≤ c.ageLimit ∧ c.ageLimit ≤ 7 ∧ 1 ≤ c.localCredits ∧ c.localCredits ≤ 16

/-- A configuration is in force, in its ranges, exactly outside LOADING and CONFIG_FAULT, where the location table is empty and any
request taken was taken in one of these two states (R4, R164, R183, section 12.4). -/
def State.configKept (s : State) : Prop :=
  (∀ c ∈ s.cf.config, configInRange c) ∧
    (s.cf.config = none ↔ s.cf.opState = .loading ∨ s.cf.opState = .configFault) ∧
    (s.cf.config = none →
      s.lt = emptyTable ∧ ∀ op, s.me.stage = .taken op → op = .loading ∨ op = .configFault)

/-! ## The rejected image -/

/-- The part after the rejection of its image with a reason and a low byte (R128, R185). -/
def State.rejected (s : State) (reason low : Nat) : State :=
  State.raiseAlarm
    { s with
      cf.opState := .configFault, cf.image := [], cf.config := none
      cl.linkHold := 50, cl.statusPending := some (s.cl.statusPending.getD false) }
    .configFault (word16 (BitVec.ofNat 8 reason) (BitVec.ofNat 8 low))

/-! ## The good message -/

/-- The part once a good message has ended and before it is taken by its type: the receiver at the next header, the link-hold timer
restarted; a link that was DOWN is UP, with the idle timer, a STATUS of restart flag 0 unless one is pending already, and in RUNNING
LISTENING (R149, R150, R151). -/
def State.heard (s : State) : State :=
  let kept : State := { s with cl.receiver := .header [], cl.holdTimer := .running (s.cl.linkHold * 10) }
  let up : State :=
    { kept with
      cl.link := .up, cl.idleTimer := .running (s.cl.linkHold * 5), cl.statusPending := some (s.cl.statusPending.getD false) }
  if s.cl.link = .up then kept
  else if s.cf.opState = .running ∧ s.eu.role = .disabled then up.enterListening
  else up

/-- The receiver is at the header's place, and these bytes go on from those it has gathered there (R149). -/
def State.headerGoesOn (s : State) (bytes : List Byte) : Prop :=
  s.cl.receiver = .hunt ∨ ∃ got, s.cl.receiver = .header got ∧ got <+: bytes

/-! ## The bus port -/

/-- The transmit slot is ON_MEDIUM. -/
def TxSlot.sending : TxSlot → Bool
  | .onMedium _ _ => true
  | .empty | .waiting _ => false

/-- The transmitter drives for exactly one frame, and only in RUNNING with the ladder given up; it is OFF while none is being sent
(R74, R133, R138). -/
def State.transmitterKept (s : State) : Prop :=
  (s.bp.transmitter = .off → s.bp.inFlight = none ∧ s.bq.txSlot.sending = false) ∧
    (s.bp.transmitter ≠ .off →
      s.cf.opState = .running ∧ s.bp.ladder = .busy ∧ s.bp.inFlight.isSome = !s.bq.txSlot.sending)

/-- Sync is SYNCED exactly in RUNNING and SILENT, a ladder stands only on an idle medium, and the quiet count does not pass 66 (R133,
R134, R144). -/
def State.ladderKept (s : State) : Prop :=
  (s.bp.sync = .synced ↔ s.cf.opState = .running ∨ s.cf.opState = .silent) ∧
    (s.bp.ladder ≠ .busy → s.bp.medium = .idle) ∧ s.bp.quietCount ≤ quietSlots

/-! ## The card link -/

/-- The totals of the card link. -/
def CardLink.totals (c : CardLink) : List Byte :=
  [c.grantTotal, c.lastCredit, c.expectedSeq, c.acceptTotal, c.deliveredTotal]

/-- A DATA_IN going out that has not straddled a DOWN. -/
def OutMessage.unbroken : OutMessage → Bool
  | .dataIn _ _ straddled => !straddled
  | _ => false

/-- While the link is DOWN every total is 0, both timers are stopped, the restart window is closed and no DATA_IN under way counts;
while it is UP both timers run (R148, R152). -/
def State.linkKept (s : State) : Prop :=
  (s.cl.link = .down →
    s.cl.totals = [0, 0, 0, 0, 0] ∧ s.cl.holdTimer = .stopped ∧ s.cl.idleTimer = .stopped ∧ s.cl.restartWindow = false ∧
      s.cl.receiver.buffer = [] ∧ s.cl.tx.any OutMessage.unbroken = false) ∧
    (s.cl.link = .up → s.cl.holdTimer ≠ .stopped ∧ s.cl.idleTimer ≠ .stopped)

/-- A DATA_IN is going out exactly while the delivery slot is full (R76, R158). -/
def OutMessage.isDataIn : OutMessage → Bool
  | .dataIn _ _ _ => true
  | _ => false

/-- The delivery slot is full exactly while a DATA_IN is being sent (R76). -/
def State.deliveryKept (s : State) : Prop := s.bq.deliverySlot.isSome = s.cl.tx.any OutMessage.isDataIn

/-- Nothing is ready to be sent: none of the six cases of R159. -/
def State.nothingReady (s : State) : Prop :=
  s.cl.statusPending = none ∧ s.cl.grantTotal = s.cl.lastCredit ∧ s.cl.responses = [] ∧ s.ec.queue = [] ∧
    (s.bq.deliveryQ = [] ∨ s.bq.deliverySlot ≠ none ∨ s.cl.allowance = 0) ∧ s.cl.idleTimer ≠ .running 0

/-- An idle transmitter of a link that is UP has nothing ready to send (R159). -/
def State.arbiterKept (s : State) : Prop := s.cl.tx = none ∧ s.cl.link = .up → s.nothingReady

/-! ## The management engine -/

/-- The message is a response of the management engine. -/
def OutMessage.ofEngine : OutMessage → Bool
  | .response r => r.fromEngine
  | _ => false

/-- The engine's responses waiting and being sent. -/
def State.engineResponses (s : State) : Nat :=
  s.cl.responses.countP (·.fromEngine) + (s.cl.tx.any OutMessage.ofEngine).toNat

/-- The stage is WAIT_SEND. -/
def Stage.sending : Stage → Bool
  | .waitSend _ => true
  | .idle | .taken _ | .waitWalk => false

/-- The management flush running. -/
def Job.isManagement : Job → Bool
  | .managementFlush _ _ => true
  | .internalFlush _ | .sweep => false

/-- Management flushes running and pending. -/
def State.managementFlushes (s : State) : Nat := (s.tw.job.any Job.isManagement).toNat + s.tw.pendingFlush.isSome.toNat

/-- The engine's queue and the response list keep to their depths, and its stage to what it waits for: nothing while IDLE, one
management flush in WAIT_WALK, one own response in WAIT_SEND (R26, R161, R163 to R165). -/
def State.engineKept (s : State) : Prop :=
  s.me.queue.length ≤ requestDepth ∧ s.cl.busyCount ≤ busyDepth ∧
    (s.me.stage = .idle ↔ s.me.current = none) ∧ (s.me.stage = .idle → s.me.queue = [] ∧ s.me.discardMark = false) ∧
    s.engineResponses = s.me.stage.sending.toNat ∧
    s.managementFlushes = (decide (s.me.stage = .waitWalk)).toNat

/-! ## The table walker -/

/-- The cursor is 0 while IDLE, and nothing waits behind an IDLE engine (R23, R29). -/
def State.walkerKept (s : State) : Prop :=
  s.tw.job = none → s.tw.cursor = 0 ∧ s.tw.pendingPlaces = [] ∧ s.tw.pendingFlush = none ∧ s.tw.sweepPending = false

/-! ## The event unit -/

/-- The queue and the lost count keep to their bounds, and the queue holds a record of an alarm only while it is set, and then one
(R177, R179). -/
def State.eventsKept (s : State) : Prop :=
  s.ec.queue.length ≤ eventDepth ∧ s.ec.lost ≤ 255 ∧
    ∀ k : EventKind, k.isAlarm = true → (s.ec.queue.countP fun r => r.kind == k) ≤ (s.ec.alarms.has k).toNat

end Sys2Proof.Machine
end

