-- ==== Sys2Proof/Certificates/Slice0/Obligations.lean ====
section
/-! DEFINITION. The statements for the provers. Each says of a command what the spec's rules give it, as an equation for its next
state where the rules fix the whole of it, or a law that every step keeps. `State.arbitrate` stands last in every next state: the
transmit arbiter's choice at the end of the event (log 21), whose rule is ArbiterOrder. -/

open Sys2Proof Sys2Proof.Machine

/-! ## The step, reset -/

/-- Step takes the front command and runs it with the queue's rest. On an empty queue it idles, but where the ladder stands in the
gap with 2 slots left: there one slot passes, which the quiet count of SYNCING counts up to 65 (log 3, log 25). -/
def Obligations.StepTakesFrontCommand : Prop :=
  ∀ (c : Instr) (rest : List Instr) (s : State),
    (s.pending = c :: rest → step s = exec c { s with pending := rest }) ∧
    (s.pending = [] →
      (s.resetAsserted = true ∨ s.bp.ladder ≠ .gap 2 → step s = .next s) ∧
      (s.resetAsserted = false → s.bp.ladder = .gap 2 →
        (s.cf.opState ≠ .syncing → step s = .next { s with bp.ladder := .gap 1 }) ∧
        (s.cf.opState = .syncing →
          step s = .next { s with bp.ladder := .gap 1, bp.quietCount := min 65 (s.bp.quietCount + 1) })))

/-- RESET asserted puts every block at its device-reset values, where the part then does nothing, and its release starts LOADING
with the straps read (R183). The strap number kept while RESET is asserted is the model's choice (log 1). -/
def Obligations.ResetRestartsThePart : Prop :=
  ∀ (s : State) (n : Station),
    exec .deviceReset s =
      .next { State.reset with resetAsserted := true, cf := ⟨.loading, s.cf.station, none, []⟩, pending := s.pending } ∧
    exec (.resetRelease n) s = .next { State.reset with cf := ⟨.loading, n, none, []⟩, pending := s.pending } ∧
    (s.resetAsserted = true → ∀ c : Instr, c ≠ .deviceReset → (∀ m, c ≠ .resetRelease m) → exec c s = .next s)

/-- The values the rules give after device reset (R4, R24, R64, R82, R100, R133, R148, R163, R177, R183). -/
def Obligations.ResetValues : Prop :=
  let s := State.reset
  s.cf.opState = .loading ∧ s.cf.config = none ∧
    (∀ n : BucketNo, ∀ w : Way, s.lt[n][w] = none) ∧
    s.tw = ⟨none, 0, [], none, false, .stopped⟩ ∧
    s.bq.free = List.finRange 64 ∧ s.bq.reserve = [] ∧ s.bq.urgentQ = [] ∧ s.bq.normalQ = [] ∧ s.bq.deliveryQ = [] ∧
    s.bq.txSlot = .empty ∧ s.bq.deliverySlot = none ∧
    (∀ n : Station, s.pt.peers[n] = none) ∧ s.pt.announceTimer = .stopped ∧
    s.eu = ⟨.disabled, .stopped, none, none, none, none⟩ ∧
    s.bp.pointer = 31 ∧ s.bp.ladder = .busy ∧ s.bp.sync = .seeking ∧ s.bp.quietCount = 0 ∧ s.bp.transmitter = .off ∧
    s.bp.inFlight = none ∧ s.bp.assembly = .empty ∧
    s.cl = ⟨.down, .stopped, .stopped, 50, .hunt, 0, 0, 0, 0, 0, none, false, [], none⟩ ∧
    s.me = ⟨[], none, .idle, false⟩ ∧
    s.ec.queue = [] ∧ s.ec.alarms = ⟨false, false, false, false⟩ ∧ s.ec.sequence = 0 ∧ s.ec.lost = 0 ∧
    ∀ i : Fin 28, s.ec.counters[i] = 0

/-! ## The transmit arbiter and the shared claims -/

/-- The arbiter's order: STATUS, CREDIT, RESPONSE, EVENT, DATA_IN, IDLE; each message is built from the values standing, a DATA_IN
from its delivery record and its buffer, and with none ready the transmitter stays idle. Each kind of message goes out as the bytes
of its layout: sync, type, tag, body length, header check, body, message check (R125, R127, R128, R154, R158, R159, R160, R180). -/
def Obligations.ArbiterOrder : Prop :=
  let message (type tag : Byte) (body : List Byte) : List Byte :=
    let header := [type, tag, BitVec.ofNat 8 (body.length / 256), BitVec.ofNat 8 body.length]
    let covered := header ++ [crc8 header] ++ body
    [0xA5#8] ++ covered ++ [hiByte (crc16 covered), loByte (crc16 covered)]
  let stateCode (op : OpState) : Byte :=
    match op with | .loading => 0 | .configFault => 1 | .syncing => 2 | .running => 3 | .silent => 4
  let roleCode (r : Role) : Byte := match r with | .disabled => 0 | .listening => 1 | .standby => 2 | .designated => 3
  let stationCode (n : Option Station) : Byte := match n with | some n => BitVec.ofNat 8 n | none => 0xFF#8
  (∀ op role designated, ∀ flag : Bool,
    (OutMessage.status op role designated flag).bytes =
      message 0x51#8 0 [stateCode op, roleCode role, stationCode designated, if flag then 1 else 0]) ∧
  (∀ total, (OutMessage.credit total).bytes = message 0x40#8 0 [total]) ∧
  (∀ r, (OutMessage.response r).bytes = message 0x21#8 r.tag r.body) ∧
  (∀ r : EventRecord,
    (OutMessage.event r).bytes =
      message 0x30#8 0 [r.kind.code, hiByte r.argument, loByte r.argument, r.sequence, BitVec.ofNat 8 r.lost]) ∧
  (∀ tag body straddled, (OutMessage.dataIn tag body straddled).bytes = message 0x11#8 tag body) ∧
  OutMessage.idle.bytes = message 0x50#8 0 [] ∧
  ∀ s : State,
    (s.cl.tx ≠ none ∨ s.cl.link = .down → s.arbitrate = s) ∧
    (s.cl.tx = none → s.cl.link = .up →
      (∀ flag, s.cl.statusPending = some flag →
        s.arbitrate = { s with cl.statusPending := none, cl.tx := some (.status s.cf.opState s.eu.role s.eu.segmentDesignated flag) }) ∧
      (s.cl.statusPending = none →
        (s.cl.grantTotal ≠ s.cl.lastCredit →
          s.arbitrate = { s with cl.lastCredit := s.cl.grantTotal, cl.tx := some (.credit s.cl.grantTotal) }) ∧
        (s.cl.grantTotal = s.cl.lastCredit →
          (∀ r rs, s.cl.responses = r :: rs → s.arbitrate = { s with cl.responses := rs, cl.tx := some (.response r) }) ∧
          (s.cl.responses = [] →
            (∀ e es, s.ec.queue = e :: es → s.arbitrate = { s with ec.queue := es, cl.tx := some (.event e) }) ∧
            (s.ec.queue = [] →
              (∀ r rs, s.bq.deliveryQ = r :: rs → s.bq.deliverySlot = none → s.cl.acceptTotal ≠ s.cl.deliveredTotal →
                let body : List Byte :=
                  [hiByte r.dstEid, loByte r.dstEid, hiByte r.srcEid, loByte r.srcEid, BitVec.ofNat 8 r.zone,
                    if r.urgent then 1 else 0, BitVec.ofNat 8 r.source,
                    match r.dest with | .station n => BitVec.ofNat 8 n | .all => 63#8] ++ s.bq.contents[r.buf]
                s.arbitrate =
                  { s with
                    bq.deliveryQ := rs, bq.deliverySlot := some r
                    cl.tx := some (.dataIn (s.cl.deliveredTotal + 1) body false) }) ∧
              (s.bq.deliveryQ = [] ∨ s.bq.deliverySlot ≠ none ∨ s.cl.acceptTotal = s.cl.deliveredTotal →
                s.arbitrate = if s.cl.idleTimer = .running 0 then { s with cl.tx := some .idle } else s))))))

/-- The push rule: a released buffer joins the tail of the reserve as OPEN with a fresh credit while a deficit exists, and goes on
top of the free stack otherwise, always when the station is not credit-eligible (R66, R67, R154). -/
def Obligations.PushRule : Prop :=
  ∀ (s : State) (b : BufNo) (c : Config), s.cf.config = some c →
    (s.cl.link = .up ∧ s.cf.opState = .running ∧ s.eu.role ≠ .disabled ∧ s.bq.reserve.length < c.localCredits →
      s.pushRule b = { s with bq.reserve := s.bq.reserve ++ [⟨b, .opened⟩], cl.grantTotal := s.cl.grantTotal + 1 }) ∧
    (s.cl.link = .down ∨ s.cf.opState ≠ .running ∨ s.eu.role = .disabled ∨ c.localCredits ≤ s.bq.reserve.length →
      s.pushRule b = { s with bq.free := b :: s.bq.free })

/-- A notification is queued with the sequence and the lost count standing, or dropped from a full queue with EVENT_LOSS and the
lost count saturating at 255 (R178). -/
def Obligations.NotificationQueued : Prop :=
  ∀ (e : EventUnit) (k : EventKind) (a : BitVec 16),
    (e.queue.length < 16 →
      e.notify k a = { e with queue := e.queue ++ [⟨k, a, e.sequence, e.lost⟩], sequence := e.sequence + 1, lost := 0 }) ∧
    (16 ≤ e.queue.length →
      e.notify k a =
        { e with
          counters := e.counters.set 27 (e.counters[27] + 1)
          lost := if e.lost < 255 then e.lost + 1 else 255 })

/-- An alarm already set does nothing; one not set joins the alarm set with a record at the tail, the oldest notification making
room in a full queue (R179). The queue is a full one, of 16 records at most, that holds a notification. -/
def Obligations.AlarmRaised : Prop :=
  ∀ (e : EventUnit) (k : EventKind) (a : BitVec 16), k.isAlarm = true →
    (e.alarms.has k = true → e.raiseAlarm k a = e) ∧
    (e.alarms.has k = false →
      (e.queue.length < 16 →
        e.raiseAlarm k a =
          { e with
            alarms := e.alarms.put k true, queue := e.queue ++ [⟨k, a, e.sequence, e.lost⟩]
            sequence := e.sequence + 1, lost := 0 }) ∧
      (∀ (front back : List EventRecord) (r : EventRecord), 16 ≤ e.queue.length → e.queue = front ++ r :: back →
        (∀ x ∈ front, x.kind.isAlarm = true) → r.kind.isAlarm = false →
        e.raiseAlarm k a =
          { e with
            alarms := e.alarms.put k true
            queue := front ++ back ++ [⟨k, a, e.sequence, min 255 (min 255 (e.lost + 1) + r.lost)⟩]
            sequence := e.sequence + 1, lost := 0
            counters := e.counters.set 27 (e.counters[27] + 1) }))

/-- Going to LISTENING: the role, the listen timer of three intervals, the ANNOUNCE loaded, ROLE_CHANGE from the role left, a STATUS
pending, and the reserve filled from the top of the free stack with a credit for each buffer (R68, R95, R104, R118, R154). -/
def Obligations.ListeningStarts : Prop :=
  ∀ (s : State) (c : Config), s.cf.config = some c →
    let t := s.enterListening
    let n := min (c.localCredits - s.bq.reserve.length) s.bq.free.length
    t.eu.role = .listening ∧ t.eu.listenTimer = .running (3 * c.interval) ∧
      t.eu.announceHolder = some ⟨c.segment, .listening, c.preference, c.zones, c.interval⟩ ∧
      t.eu.takeoverHolder = s.eu.takeoverHolder ∧ t.eu.lastDesignated = s.eu.lastDesignated ∧
      t.ec = s.ec.notify .roleChange (word16 s.eu.role.code 1) ∧
      t.bq = { s.bq with
        free := s.bq.free.drop n
        reserve := s.bq.reserve ++ (s.bq.free.take n).map fun b => ⟨b, .opened⟩ } ∧
      t.cl = { s.cl with
        grantTotal := s.cl.grantTotal + BitVec.ofNat 8 n
        statusPending := some (s.cl.statusPending.getD false) } ∧
      t.cf = s.cf ∧ t.lt = s.lt ∧ t.tw = s.tw ∧ t.fe = s.fe ∧ t.pt = s.pt ∧ t.bp = s.bp ∧ t.me = s.me

/-! ## Start-up -/

/-- No memory answers: the defaults of section 12.4 come into force, with SEGMENT the strap number, and the state is SYNCING. A byte
read joins the image while the image goes on: within the fixed part, and after it while format and length agree (R184, R185 checks 1
and 2, R186). -/
def Obligations.ImageIsRead : Prop :=
  ∀ (s : State), s.resetAsserted = false → s.cf.opState = .loading →
    (s.cf.image = [] →
      exec (.configByteRead none) s =
        .next (State.arbitrate
          { s with
            cf.opState := .syncing, cf.image := []
            cf.config := some
              { segment := s.cf.station, preference := 8, zones := 0xFF#8, interval := 10, linkHold := 50, sweepPeriod := 30,
                ageLimit := 4, learn := true, dropUnknown := false, preempt := false, localCredits := 8 }
            cl.linkHold := 50, cl.statusPending := some (s.cl.statusPending.getD false)
            bp.sync := .seeking, bp.quietCount := 0
            bp.assembly := if s.bp.medium = .idle then .empty else .waitIdle })) ∧
    ∀ b : Byte,
      let image := s.cf.image ++ [b]
      (image.length < 14 → exec (.configByteRead (some b)) s = .next (State.arbitrate { s with cf.image := image })) ∧
      (14 ≤ image.length → image.getD 0 0 = 0xC4#8 → (image.getD 13 0).toNat ≤ 32 →
        (image.getD 1 0).toNat = 16 + 4 * (image.getD 13 0).toNat → image.length < 16 + 4 * (image.getD 13 0).toNat →
        exec (.configByteRead (some b)) s = .next (State.arbitrate { s with cf.image := image }))

/-- A rejected image: CONFIG_FAULT with the alarm of the first check that fails. Of the static records the first bad one gives its
index: reason 5 for BROADCAST, a zone above 7, a place that is none and the own number, 6 for the EID of an earlier record, 7 for
the fifth record of a bucket (R2, R128, R131, R184, R185). -/
def Obligations.ImageRejected : Prop :=
  ∀ (s : State) (b : Byte), s.resetAsserted = false → s.cf.opState = .loading →
    let image := s.cf.image ++ [b]
    let n := (image.getD 13 0).toNat
    let fixedGood := image.getD 0 0 = 0xC4#8 ∧ n ≤ 32 ∧ (image.getD 1 0).toNat = 16 + 4 * n
    (s.cf.image ≠ [] → exec (.configByteRead none) s = .next (State.arbitrate (s.rejected 8 0))) ∧
    (image.length = 14 → image.getD 0 0 ≠ 0xC4#8 →
      exec (.configByteRead (some b)) s = .next (State.arbitrate (s.rejected 2 0))) ∧
    (image.length = 14 → image.getD 0 0 = 0xC4#8 → 32 < n ∨ (image.getD 1 0).toNat ≠ 16 + 4 * n →
      exec (.configByteRead (some b)) s = .next (State.arbitrate (s.rejected 3 0))) ∧
    (fixedGood → image.length = 16 + 4 * n →
      (wordSum image ≠ 0 → exec (.configByteRead (some b)) s = .next (State.arbitrate (s.rejected 1 0))) ∧
      (wordSum image = 0 →
        (∀ i, 2 ≤ i → i ≤ 12 → fieldInRange i (image.getD i 0) = false →
          (∀ j, 2 ≤ j → j < i → fieldInRange j (image.getD j 0) = true) →
          exec (.configByteRead (some b)) s = .next (State.arbitrate (s.rejected 4 i))) ∧
        ((∀ j, 2 ≤ j → j ≤ 12 → fieldInRange j (image.getD j 0) = true) →
          let eid (k : Nat) : Eid := word16 (image.getD (14 + 4 * k) 0) (image.getD (15 + 4 * k) 0)
          let place (k : Nat) : Byte := image.getD (17 + 4 * k) 0
          let bucket (k : Nat) : Byte := hiByte (eid k) ^^^ loByte (eid k)
          let ill (k : Nat) : Prop :=
            eid k = 0xFFFF#16 ∨ 7 < (image.getD (16 + 4 * k) 0).toNat ∨ (place k ≠ 0x40#8 ∧ 31 < (place k).toNat) ∨
              (place k).toNat = s.cf.station.val
          let repeated (k : Nat) : Prop := ∃ j < k, eid j = eid k
          let fifth (k : Nat) : Prop := 4 ≤ (List.range k).countP fun j => bucket j == bucket k
          ∀ k, k < n → (∀ j < k, ¬ill j ∧ ¬repeated j ∧ ¬fifth j) →
            (ill k → exec (.configByteRead (some b)) s = .next (State.arbitrate (s.rejected 5 k))) ∧
            (¬ill k → repeated k → exec (.configByteRead (some b)) s = .next (State.arbitrate (s.rejected 6 k))) ∧
            (¬ill k → ¬repeated k → fifth k → exec (.configByteRead (some b)) s = .next (State.arbitrate (s.rejected 7 k))))))

/-- An image that passes every check ends LOADING: its configuration, its LINK_HOLD, SYNCING, and each static record, in order, a
STATIC entry of age 0 in the lowest empty way of its bucket (R2, R4, R131, R185, R186). -/
def Obligations.ImageAccepted : Prop :=
  ∀ (s : State) (b : Byte), s.resetAsserted = false → s.cf.opState = .loading →
    let image := s.cf.image ++ [b]
    let n := (image.getD 13 0).toNat
    image.getD 0 0 = 0xC4#8 → n ≤ 32 → (image.getD 1 0).toNat = 16 + 4 * n → image.length = 16 + 4 * n →
    wordSum image = 0 → (∀ j, 2 ≤ j → j ≤ 12 → fieldInRange j (image.getD j 0) = true) →
    let eid (k : Nat) : Eid := word16 (image.getD (14 + 4 * k) 0) (image.getD (15 + 4 * k) 0)
    let zone (k : Nat) : Byte := image.getD (16 + 4 * k) 0
    let place (k : Nat) : Byte := image.getD (17 + 4 * k) 0
    let bucket (k : Nat) : BucketNo := (hiByte (eid k) ^^^ loByte (eid k)).toFin
    (∀ k < n, eid k ≠ 0xFFFF#16 ∧ (zone k).toNat ≤ 7 ∧ (place k = 0x40#8 ∨ (place k).toNat ≤ 31) ∧
      (place k).toNat ≠ s.cf.station.val ∧ (∀ j < k, eid j ≠ eid k) ∧
      ((List.range k).countP fun j => bucket j == bucket k) ≤ 3) →
    let entry (k : Nat) : Entry :=
      ⟨eid k, Fin.ofNat 8 (zone k).toNat, if place k = 0x40#8 then .here else .station (Fin.ofNat 32 (place k).toNat), .static, 0⟩
    let put (t : Table) (k : Nat) : Table :=
      match ([0, 1, 2, 3] : List Way).find? fun w => t[bucket k][w] == none with
      | some w => t.set (bucket k) (t[bucket k].set w (some (entry k)))
      | none => t
    exec (.configByteRead (some b)) s =
      .next (State.arbitrate
        { s with
          cf.opState := .syncing, cf.image := [], lt := (List.range n).foldl put s.lt
          cf.config := some
            { segment := (image.getD 2 0).toNat, preference := (image.getD 3 0).toNat, zones := image.getD 4 0,
              interval := (image.getD 5 0).toNat, linkHold := (image.getD 6 0).toNat,
              sweepPeriod := (image.getD 7 0).toNat, ageLimit := (image.getD 8 0).toNat,
              learn := (image.getD 9 0).getLsbD 0, dropUnknown := (image.getD 9 0).getLsbD 1,
              preempt := (image.getD 9 0).getLsbD 2, localCredits := (image.getD 10 0).toNat }
          cl.linkHold := (image.getD 6 0).toNat, cl.statusPending := some (s.cl.statusPending.getD false)
          bp.sync := .seeking, bp.quietCount := 0
          bp.assembly := if s.bp.medium = .idle then .empty else .waitIdle })

/-! ## The bus port -/

/-- The medium going idle sets the ladder to GAP with 2 slots left and ends what was being received, a frame without its end a
frame error and one that ends before byte 8 a header error, unless a jam cut it; its leaving idle gives the ladder up. Rung 0
follows the gap and rung k+1 rung k, rung 0 again after rung 63; a station that is not RUNNING or SYNCED, whose rung it is not, or
that has no work lets it pass (R124, R134, R135, R136, R142, R143, R144). That the quiet count steps at the rungs, by the slots
that were still to pass before them, and that at 65 its expiry comes before the next rung, is the model's (log 25). -/
def Obligations.LadderMoves : Prop :=
  ∀ s : State, s.resetAsserted = false →
    (∀ truncated : Bool, s.bp.ladder = .busy → s.bp.transmitter = .off →
      let counted := match s.bp.assembly with
        | .frame _ => s.count .rxFrameErr
        | .empty =>
          if truncated = true ∧ s.cf.opState ≠ OpState.loading ∧ s.cf.opState ≠ OpState.configFault ∧
              s.bp.medium = Medium.carrier then
            s.count .rxHeaderErr
          else s
        | .waitIdle => s
      exec (.mediumGoesIdle truncated) s =
        .next (State.arbitrate { counted with bp.medium := .idle, bp.ladder := .gap 2, bp.assembly := .empty })) ∧
    (s.bp.medium = .idle →
      exec .mediumLeavesIdle s =
        .next (State.arbitrate { s with bp.medium := .carrier, bp.ladder := .busy, bp.quietCount := 0 })) ∧
    (s.cf.opState = .syncing → 65 ≤ s.bp.quietCount → exec .rungStart s = .next s) ∧
    (∀ n, s.bp.transmitter = .off → s.bp.ladder = .gap n → s.cf.opState = .syncing → s.bp.quietCount < 65 →
      exec .rungStart s =
        .next (State.arbitrate { s with bp.ladder := .rung 0, bp.quietCount := min 65 (s.bp.quietCount + n) })) ∧
    (∀ j, s.bp.transmitter = .off → s.bp.ladder = .rung j → s.cf.opState = .syncing → s.bp.quietCount < 65 →
      exec .rungStart s =
        .next (State.arbitrate { s with bp.ladder := .rung (j + 1), bp.quietCount := min 65 (s.bp.quietCount + 1) })) ∧
    ∀ k : Fin 64, s.bp.transmitter = .off →
      ((∃ n, s.bp.ladder = .gap n) ∧ k = 0 ∨ ∃ j, s.bp.ladder = .rung j ∧ k = j + 1) → s.cf.opState ≠ .syncing →
      let r := s.cf.station - s.bp.pointer - 1
      (s.cf.opState ≠ .running ∨ s.bp.sync = .seeking ∨ s.bp.medium ≠ .idle ∨ (k.val ≠ r.val ∧ k.val ≠ 32 + r.val) ∨
        (s.eu.announceHolder = none ∧ s.eu.takeoverHolder = none ∧ s.bq.txSlot = .empty ∧ s.bq.urgentQ = [] ∧
          s.bq.normalQ = [])) →
      exec .rungStart s = .next (State.arbitrate { s with bp.ladder := .rung k })

/-- At its urgent rung r with urgent work, or at its normal rung 32 + r, the station sends the TAKEOVER, else the ANNOUNCE, whose
holder is left empty; with both holders empty it sends the WAITING frame, else the urgent head, else the normal head, a normal frame
only at the normal rung (R74, R135, R136, R138, R139). That the own frame gives the ladder up, sets the medium to CARRIER and is
passed over by the own receiver from its first moment on is read from R132, R134 and R140 (log 17); that a normal frame WAITING
leaves the urgent rung unused whatever the urgent BTQ holds is R135's table, against a sentence of R136 (log 28). -/
def Obligations.RungSends : Prop :=
  ∀ (s : State) (k : Fin 64), s.resetAsserted = false → s.bp.transmitter = .off → s.cf.opState = .running →
    s.bp.sync = .synced → s.bp.medium = .idle →
    ((∃ n, s.bp.ladder = .gap n) ∧ k = 0 ∨ ∃ j, s.bp.ladder = .rung j ∧ k = j + 1) →
    let r := s.cf.station - s.bp.pointer - 1
    let own := k.val = r.val ∨ k.val = 32 + r.val
    let bp := { s.bp with ladder := .busy, medium := .carrier, quietCount := 0, transmitter := .frame, assembly := .waitIdle }
    (∀ t, own → s.eu.takeoverHolder = some t →
      exec .rungStart s =
        .next (State.arbitrate
          { s with eu.takeoverHolder := none, bp := { bp with inFlight := some ⟨.takeover t, false⟩ } })) ∧
    (∀ a, own → s.eu.takeoverHolder = none → s.eu.announceHolder = some a →
      exec .rungStart s =
        .next (State.arbitrate
          { s with eu.announceHolder := none, bp := { bp with inFlight := some ⟨.announce a, false⟩ } })) ∧
    (s.eu.takeoverHolder = none → s.eu.announceHolder = none →
      (∀ x, s.bq.txSlot = .waiting x → (x.urgent = true ∧ k.val = r.val) ∨ k.val = 32 + r.val →
        exec .rungStart s = .next (State.arbitrate { s with bq.txSlot := .onMedium x false, bp := bp })) ∧
      (∀ x xs, s.bq.txSlot = .empty → s.bq.urgentQ = x :: xs → own →
        exec .rungStart s =
          .next (State.arbitrate { s with bq.urgentQ := xs, bq.txSlot := .onMedium x false, bp := bp })) ∧
      (∀ x xs, s.bq.txSlot = .empty → s.bq.urgentQ = [] → s.bq.normalQ = x :: xs → k.val = 32 + r.val →
        exec .rungStart s =
          .next (State.arbitrate { s with bq.normalQ := xs, bq.txSlot := .onMedium x false, bp := bp })) ∧
      (∀ x, s.bq.txSlot = .waiting x → x.urgent = false → k.val = r.val →
        exec .rungStart s = .next (State.arbitrate { s with bp.ladder := .rung k })) ∧
      (s.bq.txSlot = .empty → s.bq.urgentQ = [] → k.val = r.val →
        exec .rungStart s = .next (State.arbitrate { s with bp.ladder := .rung k })))

/-- The quiet count's reaching 66 gains sync with P unchanged: RUNNING, SYNCED, both timers started, STATUS pending, and LISTENING
where the link is UP; at a lower count there is no such event (R144, R187; ListeningStarts says what LISTENING brings). That the
last slot is the expiry itself, which comes with the count at 65, is the model's (log 25). -/
def Obligations.QuietCountGainsSync : Prop :=
  ∀ (s : State) (c : Config), s.resetAsserted = false → s.cf.opState = .syncing → s.bp.medium = .idle →
    s.cf.config = some c →
    (s.bp.quietCount < 65 → exec .quietCountExpiry s = .next s) ∧
    (65 ≤ s.bp.quietCount →
    let run : State :=
      { s with
        cf.opState := .running, bp.sync := .synced, bp.quietCount := 66, pt.announceTimer := .running c.interval
        tw.sweepTimer := if c.sweepPeriod = 0 then .stopped else .running c.sweepPeriod
        cl.statusPending := some (s.cl.statusPending.getD false) }
    (s.cl.link = .down → exec .quietCountExpiry s = .next run.arbitrate) ∧
    (s.cl.link = .up → exec .quietCountExpiry s = .next run.enterListening.arbitrate))

/-- The own frame on the medium: the sync pattern 0xAA 0xAB and then the frame, a control frame to ALL as its holder gave it, a data
frame with its record's fields and its buffer's payload. Byte 8 sent sets P to the own number; a control frame's end clears it and
counts TX_CONTROL; a data frame's end empties the slot, releases the buffer by the push rule and counts TX_DATA, marked or not; a
collision stops the frame and drives the jam, counts COLLISIONS and sets P to 31 (R75, R78, R122, R123, R137, R138, R139, R141). -/
def Obligations.OwnFrameIsSent : Prop :=
  ∀ s : State, s.resetAsserted = false → s.bp.transmitter = .frame →
    let frame (kind : Nat) (urgent : Bool) (zone : Nat) (dest : Byte) (dst src : Eid) (length : Nat) (payload : List Byte) :
        Option (List Byte) :=
      let byte0 := kind * 64 + (if urgent then 32 else 0) + zone * 4 + length / 256 % 4
      let header := [BitVec.ofNat 8 byte0, BitVec.ofNat 8 length, BitVec.ofNat 8 s.cf.station, dest, hiByte dst, loByte dst,
        hiByte src, loByte src]
      let covered := header ++ [crc8 header] ++ payload
      some ([0xAA#8, 0xAB#8] ++ covered ++ [hiByte (crc16 covered), loByte (crc16 covered)])
    (∀ a mark, s.bp.inFlight = some ⟨.announce a, mark⟩ →
      s.frameBeingSent = frame 1 true 0 63 0xFFFF#16 0xFFFF#16 6
        [BitVec.ofNat 8 a.segment, match a.role with | .disabled => 0 | .listening => 1 | .standby => 2 | .designated => 3,
          BitVec.ofNat 8 a.preference, a.zones, BitVec.ofNat 8 a.interval, 0]) ∧
    (∀ x mark, s.bp.inFlight = some ⟨.takeover x, mark⟩ →
      s.frameBeingSent = frame 2 true 0 63 0xFFFF#16 0xFFFF#16 2
        [BitVec.ofNat 8 x.segment, match x.previous with | some n => BitVec.ofNat 8 n | none => 0xFF#8]) ∧
    (∀ r marked, s.bp.inFlight = none → s.bq.txSlot = .onMedium r marked →
      s.frameBeingSent =
        frame 0 r.urgent r.zone (match r.dest with | .station n => BitVec.ofNat 8 n | .all => 63#8) r.dstEid r.srcEid r.length
          s.bq.contents[r.buf]) ∧
    exec .ownHeaderSent s = .next (State.arbitrate { s with bp.pointer := s.cf.station }) ∧
    (∀ c, s.bp.inFlight = some c →
      exec .controlFrameSent s =
        .next (State.arbitrate (State.count { s with bp.transmitter := .off, bp.inFlight := none } .txControl))) ∧
    (∀ r marked, s.bp.inFlight = none → s.bq.txSlot = .onMedium r marked →
      exec .dataFrameSent s =
        .next (State.arbitrate
          ((State.pushRule { s with bp.transmitter := .off, bq.txSlot := .empty } r.buf).count .txData))) ∧
    exec .collision s =
      .next (State.arbitrate
        (State.count { s with bp.transmitter := .jam, bp.pointer := 31, bp.medium := .collision } .collisions))

/-- At the jam's end a control frame goes back to its empty holder unless it bears a drop mark, and is dropped otherwise; a data
frame's attempt count steps and the frame waits, at 16 it is dropped with EXCESS_DROPS and EXCESS_COLLISIONS, its buffer by the push
rule, and a marked one is dropped with ROLE_DISCARD and no step (R75, R78, R138, R139). -/
def Obligations.JamEnds : Prop :=
  ∀ s : State, s.resetAsserted = false → s.bp.transmitter = .jam →
    let off := { s.bp with transmitter := .off, inFlight := none }
    (∀ a, s.bp.inFlight = some ⟨.announce a, false⟩ → s.eu.announceHolder = none →
      exec .jamEnd s = .next (State.arbitrate { s with bp := off, eu.announceHolder := some a })) ∧
    (∀ t, s.bp.inFlight = some ⟨.takeover t, false⟩ → s.eu.takeoverHolder = none →
      exec .jamEnd s = .next (State.arbitrate { s with bp := off, eu.takeoverHolder := some t })) ∧
    (∀ c, s.bp.inFlight = some c →
      c.dropMark = true ∨ ((∃ a, c.frame = .announce a) ∧ s.eu.announceHolder ≠ none) ∨
        ((∃ t, c.frame = .takeover t) ∧ s.eu.takeoverHolder ≠ none) →
      exec .jamEnd s = .next (State.arbitrate { s with bp := off })) ∧
    ∀ r : TxRecord, s.bp.inFlight = none →
      let emptied : State := { s with bp := off, bq.txSlot := .empty }
      (s.bq.txSlot = .onMedium r false → r.attempts < 15 →
        exec .jamEnd s =
          .next (State.arbitrate { s with bp := off, bq.txSlot := .waiting { r with attempts := r.attempts + 1 } })) ∧
      (s.bq.txSlot = .onMedium r false → r.attempts = 15 →
        exec .jamEnd s =
          .next (State.arbitrate
            (((emptied.pushRule r.buf).count .excessDrops).notify .excessCollisions
              (word16 0 (match r.dest with | .station n => BitVec.ofNat 8 n | .all => 63#8))))) ∧
      (s.bq.txSlot = .onMedium r true →
        exec .jamEnd s = .next (State.arbitrate ((emptied.count .roleDiscard).pushRule r.buf)))

/-- A jam seen with the transmitter OFF: in RUNNING and SILENT the frame being received is discarded, P is 31 and JAMS_SEEN counted;
in SYNCING sync is gained as well; in LOADING and CONFIG_FAULT it is not taken (R134, R137, R142, R144). -/
def Obligations.JamIsSeen : Prop :=
  ∀ s : State, s.resetAsserted = false → s.bp.transmitter = .off → s.bp.medium ≠ .collision →
    let taken : State :=
      State.count
        { s with
          bp.medium := .collision, bp.ladder := .busy, bp.quietCount := 0, bp.assembly := .empty, bp.pointer := 31 }
        .jamsSeen
    (s.cf.opState = .running ∨ s.cf.opState = .silent → exec .jamSeen s = .next taken.arbitrate) ∧
    (s.cf.opState = .syncing → exec .jamSeen s = .next taken.enterRunning.arbitrate) ∧
    (s.cf.opState = .loading ∨ s.cf.opState = .configFault →
      exec .jamSeen s =
        .next (State.arbitrate { s with bp.medium := .collision, bp.ladder := .busy, bp.quietCount := 0 }))

/-- Byte 8 of a frame: a failed header check counts RX_HEADER_ERR, leaves P and waits for the medium to go idle; a good header sets
P to its source, and outside RUNNING with the own number nothing more, in SYNCING after sync is gained (R124 steps 1 and 2, R137,
R143, R144). -/
def Obligations.HeaderArrives : Prop :=
  ∀ (s : State) (h : Vector Byte 9), s.resetAsserted = false → s.bp.transmitter = .off → s.bp.assembly = .empty →
    s.bp.medium = .carrier → s.cf.opState ≠ .loading → s.cf.opState ≠ .configFault →
    let good : State := { s with bp.pointer := frameSource h, bp.assembly := .frame h }
    (crc8 (h.toList.take 8) ≠ h[8] →
      exec (.headerReceived h) s = .next (State.arbitrate (State.count { s with bp.assembly := .waitIdle } .rxHeaderErr))) ∧
    (crc8 (h.toList.take 8) = h[8] → s.cf.opState = .silent ∨ (s.cf.opState = .running ∧ frameSource h ≠ s.cf.station) →
      exec (.headerReceived h) s = .next good.arbitrate) ∧
    (crc8 (h.toList.take 8) = h[8] → s.cf.opState = .syncing → frameSource h ≠ s.cf.station →
      exec (.headerReceived h) s = .next good.enterRunning.arbitrate)

/-- A good header with the own number in RUNNING takes the station to SILENT in its event: P its number, DUP_STATION raised, the
role DISABLED, the listen timer stopped, both holders empty, a STATUS pending; from DESIGNATED a frame WAITING, both BTQs and the
delivery queue are discarded with ROLE_DISCARD, their buffers on the free stack, a frame on the medium and a TAKEOVER in flight are
marked and place LOCAL is flushed; ROLE_CHANGE tells the role left. In SYNCING the header gains sync first, so that the station
passes through RUNNING, and through LISTENING where the link is UP (R77, R78, R106, R113, R114, R118, R144, R145, R187). ROLE_CHANGE
from LISTENING and STANDBY is the model's reading (log 26). -/
def Obligations.DuplicateGoesSilent : Prop :=
  ∀ (s : State) (h : Vector Byte 9) (c : Config), s.resetAsserted = false → s.bp.transmitter = .off →
    s.bp.assembly = .empty → s.bp.medium = .carrier → s.cf.config = some c → crc8 (h.toList.take 8) = h[8] →
    frameSource h = s.cf.station →
    let heard : State := { s with bp.pointer := s.cf.station, bp.assembly := .frame h }
    let silenced (t : State) : State :=
      let alarmed := t.ec.raiseAlarm .dupStation (word16 0 (BitVec.ofNat 8 s.cf.station))
      let quiet : State :=
        { t with
          cf.opState := .silent, cl.statusPending := some (t.cl.statusPending.getD false), eu.role := .disabled
          eu.listenTimer := .stopped, eu.announceHolder := none, eu.takeoverHolder := none }
      let waiting : List BufNo := (match t.bq.txSlot with | .waiting r => [r.buf] | _ => []) ++
        t.bq.urgentQ.map TxRecord.buf ++ t.bq.normalQ.map TxRecord.buf ++ t.bq.deliveryQ.map RxRecord.buf
      match t.eu.role with
      | .disabled => { quiet with ec := alarmed }
      | .listening => State.refreshDesignated { quiet with ec := alarmed.notify .roleChange (word16 1 0) }
      | .standby => State.refreshDesignated { quiet with ec := alarmed.notify .roleChange (word16 2 0) }
      | .designated =>
        State.refreshDesignated
          { quiet with
            ec := (alarmed.countN .roleDiscard waiting.length).notify .roleChange (word16 3 0)
            tw := t.tw.requestFlush [.here]
            bp.inFlight := t.bp.inFlight.map fun f =>
              match f.frame with
              | .takeover _ => { f with dropMark := true }
              | .announce _ => f
            bq := { t.bq with
              free := waiting.reverse ++ t.bq.free, urgentQ := [], normalQ := [], deliveryQ := []
              txSlot := match t.bq.txSlot with
                | .onMedium r _ => .onMedium r true
                | .empty | .waiting _ => .empty } }
    let run : State :=
      { heard with
        cf.opState := .running, bp.sync := .synced, pt.announceTimer := .running c.interval
        tw.sweepTimer := if c.sweepPeriod = 0 then .stopped else .running c.sweepPeriod
        cl.statusPending := some (s.cl.statusPending.getD false) }
    (s.cf.opState = .running → exec (.headerReceived h) s = .next (silenced heard).arbitrate) ∧
    (s.cf.opState = .syncing → s.cl.link = .down → exec (.headerReceived h) s = .next (silenced run).arbitrate) ∧
    (s.cf.opState = .syncing → s.cl.link = .up → exec (.headerReceived h) s = .next (silenced run.enterListening).arbitrate)

/-- A frame that ends as a frame error or a format error, and a good DATA, ANNOUNCE or TAKEOVER frame from the own number, counts
its counter and does nothing else (R83, R124 steps 3 to 5, R143, R145). -/
def Obligations.FrameIsClassed : Prop :=
  ∀ (s : State) (h : Vector Byte 9) (rest : List Byte), s.resetAsserted = false → s.bp.assembly = .frame h →
    let payload := rest.take (frameLength h)
    let crc := crc16 (h.toList ++ payload)
    let checked := frameLength h + 2 ≤ rest.length ∧ (rest.drop (frameLength h)).take 2 = [hiByte crc, loByte crc]
    let ended (c : Counter) : Host.Outcome State Fault Refusal :=
      .next (State.arbitrate (State.count { s with bp.assembly := .waitIdle } c))
    (¬checked → exec (.frameReceived rest) s = ended .rxFrameErr) ∧
    (checked → frameKind h = 3 ∨
        (frameKind h = 0 ∧ (frameLength h = 0 ∨ 256 < frameLength h ∨ (31 < frameDestField h ∧ frameDestField h < 63) ∨
          frameSrcEid h = 0xFFFF#16)) ∨
        (frameKind h = 1 ∧ (frameLength h ≠ 6 ∨ announceOfBody payload = none)) ∨
        (frameKind h = 2 ∧ (frameLength h ≠ 2 ∨ takeoverOfBody payload = none)) →
      exec (.frameReceived rest) s = ended .rxFormatErr) ∧
    (checked → frameSource h = s.cf.station →
      (frameKind h = 0 ∧ 1 ≤ frameLength h ∧ frameLength h ≤ 256 ∧ (frameDestField h < 32 ∨ frameDestField h = 63) ∧
          frameSrcEid h ≠ 0xFFFF#16) ∨
        (frameKind h = 1 ∧ announceOfBody payload ≠ none) ∨ (frameKind h = 2 ∧ takeoverOfBody payload ≠ none) →
      exec (.frameReceived rest) s = ended .rxGood)


/-! ## Frames taken by the peer table and the forwarding engine -/

/-- A good DATA frame of another station counts RX_GOOD and keeps its sender's entry alive, whatever the state; in RUNNING its
decision starts behind the earlier ones, with its learn first where LEARN is on, its plan from the role, the zones and the
destination (R55, R56, R57, R58, R59, R89, R124). That the oldest decision is not over is kept by TablesStaySound. -/
def Obligations.GoodDataFrameIsTaken : Prop :=
  ∀ (s : State) (h : Vector Byte 9) (rest : List Byte) (dest : Dest) (c : Config), s.resetAsserted = false →
    s.bp.assembly = .frame h → s.cf.config = some c →
    let n := frameSource h
    let payload := rest.take (frameLength h)
    let crc := crc16 (h.toList ++ payload)
    frameLength h + 2 ≤ rest.length → (rest.drop (frameLength h)).take 2 = [hiByte crc, loByte crc] →
    frameKind h = 0 → 1 ≤ frameLength h → frameLength h ≤ 256 →
    (∃ m : Station, frameDestField h = m.val ∧ dest = .station m) ∨ (frameDestField h = 63 ∧ dest = .all) →
    frameSrcEid h ≠ 0xFFFF#16 → n ≠ s.cf.station → s.fe.backplane.head?.any BackplaneDecision.isOver = false →
    let f : DataFrame := ⟨n, dest, frameUrgent h, frameZone h, frameDstEid h, frameSrcEid h, payload⟩
    let alive : State :=
      State.count
        { s with
          bp.assembly := .waitIdle
          pt.peers := s.pt.peers.set n (s.pt.peers[n].map fun q => { q with missed := 0 }) }
        .rxGood
    let plan : DeliveryPlan :=
      if s.eu.role ≠ .designated ∨ hasZone c.zones f.zone = false then .letGo
      else if dest = .station s.cf.station ∨ (dest = .all ∧ f.dstEid = 0xFFFF#16) then .deliver
      else if dest = .all then .lookup
      else .letGo
    (s.cf.opState ≠ .running → exec (.frameReceived rest) s = .next alive.arbitrate) ∧
    (s.cf.opState = .running → c.learn = true →
      exec (.frameReceived rest) s =
        .next (State.arbitrate { alive with fe.backplane := s.fe.backplane ++ [⟨false, .learn f plan⟩] })) ∧
    (s.cf.opState = .running → c.learn = false →
      (plan = .deliver →
        exec (.frameReceived rest) s =
          .next (State.arbitrate { alive with fe.backplane := s.fe.backplane ++ [⟨false, .handover f⟩] })) ∧
      (plan = .lookup →
        exec (.frameReceived rest) s =
          .next (State.arbitrate { alive with fe.backplane := s.fe.backplane ++ [⟨false, .lookup f⟩] })) ∧
      (plan = .letGo → s.fe.backplane = [] → exec (.frameReceived rest) s = .next alive.arbitrate))

/-- A good ANNOUNCE of another station: the entry is written alive; PEER_UP or PEER_RESTART, then INTERVAL_MISMATCH, then the flush
of its place where they apply; last designated follows; then the election unit acts and segment designated is taken anew (R84, R85,
R86, R87, R88, R102, R103). What acting does is RankDecides, segment designated SegmentDesignatedFollows. That last designated stays
NONE before RUNNING is the model's choice (log 19). -/
def Obligations.AnnounceIsTaken : Prop :=
  ∀ (s : State) (h : Vector Byte 9) (rest : List Byte) (a : Announce) (c : Config), s.resetAsserted = false →
    s.bp.assembly = .frame h → s.cf.config = some c →
    let n := frameSource h
    let payload := rest.take (frameLength h)
    let crc := crc16 (h.toList ++ payload)
    frameLength h + 2 ≤ rest.length → (rest.drop (frameLength h)).take 2 = [hiByte crc, loByte crc] →
    frameKind h = 1 → announceOfBody payload = some a → n ≠ s.cf.station →
    let counted := s.ec.count .rxGood
    let mismatch (e : EventUnit) : EventUnit :=
      e.notify .intervalMismatch (word16 (BitVec.ofNat 8 n) (BitVec.ofNat 8 a.interval))
    let after : Peer := ⟨a.segment, a.role, a.preference, a.zones, a.interval, 0⟩
    let last : Option Station :=
      if s.cf.opState = .syncing then s.eu.lastDesignated
      else if a.segment = c.segment ∧ a.role = .designated then some n
      else if a.segment ≠ c.segment ∧ s.eu.lastDesignated = some n then none
      else s.eu.lastDesignated
    let written (ec : EventUnit) (tw : Walker) : State :=
      { s with
        bp.assembly := .waitIdle, pt.peers := s.pt.peers.set n (some after), eu.lastDesignated := last, ec := ec, tw := tw }
    s.cf.opState = .syncing ∨ s.cf.opState = .running ∨ s.cf.opState = .silent →
    (s.pt.peers[n] = none →
      let up := counted.notify .peerUp (word16 0 (BitVec.ofNat 8 n))
      let ec := if a.interval = c.interval then up else mismatch up
      exec (.frameReceived rest) s =
        .next (State.arbitrate (((written ec s.tw).actOnReport .announce n none (some after)).refreshDesignated))) ∧
    ∀ q, s.pt.peers[n] = some q →
      let restarted := (q.role = .standby ∨ q.role = .designated) ∧ a.role = .listening
      let departed := q.role = .designated ∧ a.role ≠ .designated
      let told := if restarted then counted.notify .peerRestart (word16 0 (BitVec.ofNat 8 n)) else counted
      let ec := if a.interval = c.interval ∨ a.interval = q.interval then told else mismatch told
      let tw := if restarted ∨ departed then s.tw.requestFlush [.station n] else s.tw
      exec (.frameReceived rest) s =
        .next (State.arbitrate (((written ec tw).actOnReport .announce n (some q) (some after)).refreshDesignated))

/-- A good TAKEOVER of another station flushes the place of the previous designated it names, its own number, the sender's and NONE
apart; a present sender becomes DESIGNATED in the segment carried and alive, and is reported; an absent one makes no entry and no
report (R93, R94, R102, R103). That last designated stays NONE before RUNNING is the model's choice (log 19). -/
def Obligations.TakeoverIsTaken : Prop :=
  ∀ (s : State) (h : Vector Byte 9) (rest : List Byte) (t : Takeover) (c : Config), s.resetAsserted = false →
    s.bp.assembly = .frame h → s.cf.config = some c →
    let n := frameSource h
    let payload := rest.take (frameLength h)
    let crc := crc16 (h.toList ++ payload)
    frameLength h + 2 ≤ rest.length → (rest.drop (frameLength h)).take 2 = [hiByte crc, loByte crc] →
    frameKind h = 2 → takeoverOfBody payload = some t → n ≠ s.cf.station →
    let tw := match t.previous with
      | none => s.tw
      | some p => if p = s.cf.station ∨ p = n then s.tw else s.tw.requestFlush [.station p]
    let told : State := State.count { s with bp.assembly := .waitIdle, tw := tw } .rxGood
    (s.pt.peers[n] = none → exec (.frameReceived rest) s = .next told.arbitrate) ∧
    ∀ q, s.pt.peers[n] = some q → s.cf.opState = .syncing ∨ s.cf.opState = .running ∨ s.cf.opState = .silent →
      let after : Peer := { q with role := .designated, segment := t.segment, missed := 0 }
      let last : Option Station :=
        if s.cf.opState = .syncing then s.eu.lastDesignated
        else if t.segment = c.segment then some n else if s.eu.lastDesignated = some n then none else s.eu.lastDesignated
      let previous := if t.previous = some n then none else t.previous
      exec (.frameReceived rest) s =
        .next (State.arbitrate
          ((State.actOnReport
            { told with pt.peers := s.pt.peers.set n (some after), eu.lastDesignated := last }
            (.takeover previous) n (some q) (some after)).refreshDesignated))

/-! ## The segment election -/

/-- Segment designated is the own number while DESIGNATED, else the highest-ranked DESIGNATED peer of the own segment, else NONE; a
change makes a STATUS pending, whose restart flag stays (R101, R102, R118, R160). -/
def Obligations.SegmentDesignatedFollows : Prop :=
  ∀ (s : State) (c : Config), s.cf.config = some c →
    let partner (n : Station) (p : Peer) : Prop := s.pt.peers[n] = some p ∧ p.segment = c.segment ∧ p.role = .designated
    let becomes (d : Option Station) : Prop :=
      (s.eu.segmentDesignated = d → s.refreshDesignated = s) ∧
      (s.eu.segmentDesignated ≠ d →
        s.refreshDesignated =
          { s with eu.segmentDesignated := d, cl.statusPending := some (s.cl.statusPending.getD false) })
    (s.eu.role = .designated → becomes (some s.cf.station)) ∧
    (s.eu.role ≠ .designated → (∀ n p, ¬partner n p) → becomes none) ∧
    (∀ n p, s.eu.role ≠ .designated → partner n p →
      (∀ m q, partner m q → m ≠ n → q.preference < p.preference ∨ (q.preference = p.preference ∧ n < m)) →
      becomes (some n))

/-- The election unit's own acting on a report: a STANDBY station becomes DESIGNATED when a report of its segment leaves it no
designated candidate and the top rank among the STANDBY ones, or with PREEMPT above every designated candidate; a DESIGNATED one
that hears another answers a lower rank with its ANNOUNCE and steps down before a higher one, with DUAL_ACTIVE unless a TAKEOVER
names it; in any other case nothing (R101, R108, R109, R110, R116, R117). -/
def Obligations.RankDecides : Prop :=
  ∀ (s : State) (c : Config) (kind : ReportKind) (n : Station) (before after : Option Peer), s.cf.config = some c →
    let own (p : Option Peer) : Prop := ∃ q, p = some q ∧ q.segment = c.segment
    let partner (m : Station) (q : Peer) : Prop := s.pt.peers[m] = some q ∧ q.segment = c.segment
    let above (m : Station) (q : Peer) : Prop :=
      q.preference < c.preference ∨ (q.preference = c.preference ∧ s.cf.station < m)
    let wins : Prop :=
      ((∀ m q, partner m q → q.role ≠ .designated) ∧ ∀ m q, partner m q → q.role = .standby → above m q) ∨
        ((∃ m q, partner m q ∧ q.role = .designated) ∧ c.preempt = true ∧
          ∀ m q, partner m q → q.role = .designated → above m q)
    (s.eu.role = .disabled ∨ s.eu.role = .listening → s.actOnReport kind n before after = s) ∧
    (s.eu.role = .standby →
      ((own before ∨ own after) ∧ wins → s.actOnReport kind n before after = s.becomeDesignated) ∧
      (¬(own before ∨ own after) ∨ ¬wins → s.actOnReport kind n before after = s)) ∧
    (s.eu.role = .designated →
      (∀ p, kind ≠ .removed → after = some p → p.segment = c.segment → p.role = .designated →
        (above n p →
          s.actOnReport kind n before after =
            { s with eu.announceHolder := some ⟨c.segment, .designated, c.preference, c.zones, c.interval⟩ }) ∧
        (¬above n p → kind = .takeover (some s.cf.station) → s.actOnReport kind n before after = s.stepDown) ∧
        (¬above n p → kind ≠ .takeover (some s.cf.station) →
          s.actOnReport kind n before after = s.stepDown.raiseAlarm .dualActive (word16 0 (BitVec.ofNat 8 n)))) ∧
      (kind = .removed ∨ ¬own after ∨ (∃ p, after = some p ∧ p.role ≠ .designated) →
        s.actOnReport kind n before after = s))

/-- Becoming DESIGNATED: the TAKEOVER names the highest-ranked designated partner, else last designated, which becomes NONE; the
ANNOUNCE is loaded; the partners' places and the previous designated's are flushed; ROLE_CHANGE, STATUS, and the own number as
segment designated (R101, R111, R112, R118). -/
def Obligations.BecomingDesignated : Prop :=
  ∀ (s : State) (c : Config), s.cf.config = some c →
    let partner (n : Station) (p : Peer) : Prop := s.pt.peers[n] = some p ∧ p.segment = c.segment ∧ p.role = .designated
    let places : List Place :=
      (allStations.filter fun n => s.pt.peers[n].any fun p => p.segment == c.segment).map .station
    let becomes (previous : Option Station) : Prop :=
      s.becomeDesignated =
        { s with
          eu.role := .designated, eu.lastDesignated := none, eu.segmentDesignated := some s.cf.station
          eu.takeoverHolder := some ⟨c.segment, previous⟩
          eu.announceHolder := some ⟨c.segment, .designated, c.preference, c.zones, c.interval⟩
          tw := s.tw.requestFlush (places ++ previous.toList.map .station)
          ec := s.ec.notify .roleChange (word16 s.eu.role.code 3)
          cl.statusPending := some (s.cl.statusPending.getD false) }
    ((∀ n p, ¬partner n p) → becomes s.eu.lastDesignated) ∧
    ∀ n p, partner n p →
      (∀ m q, partner m q → m ≠ n → q.preference < p.preference ∨ (q.preference = p.preference ∧ n < m)) →
      becomes (some n)

/-- Stepping down to STANDBY: the TAKEOVER is withdrawn, a frame on the medium is marked, and every waiting data frame, that of the
slot, the urgent BTQ, the normal BTQ and the delivery queue in turn, is discarded with ROLE_DISCARD. Its buffer goes by the push rule:
the first of them join the reserve as OPEN up to LOCAL_CREDITS with a fresh credit each, and the rest go on top of the free stack.
Place LOCAL is flushed, the ANNOUNCE loaded, ROLE_CHANGE raised, a STATUS pending, and segment designated taken anew (R66, R67, R77,
R78, R102, R113, R114, R118). -/
def Obligations.SteppingDown : Prop :=
  ∀ (s : State) (c : Config), s.cf.config = some c →
    let waiting : List BufNo := (match s.bq.txSlot with | .waiting r => [r.buf] | .empty | .onMedium _ _ => []) ++
      s.bq.urgentQ.map TxRecord.buf ++ s.bq.normalQ.map TxRecord.buf ++ s.bq.deliveryQ.map RxRecord.buf
    let room := if s.cl.link = .up ∧ s.cf.opState = .running then c.localCredits - s.bq.reserve.length else 0
    s.stepDown =
      State.refreshDesignated
        { s with
          eu.role := .standby, eu.takeoverHolder := none
          eu.announceHolder := some ⟨c.segment, .standby, c.preference, c.zones, c.interval⟩
          bp.inFlight := s.bp.inFlight.map fun f =>
            match f.frame with
            | .takeover _ => { f with dropMark := true }
            | .announce _ => f
          bq := { s.bq with
            reserve := s.bq.reserve ++ (waiting.take room).map fun b => ⟨b, .opened⟩
            free := (waiting.drop room).reverse ++ s.bq.free
            urgentQ := [], normalQ := [], deliveryQ := []
            txSlot := match s.bq.txSlot with
              | .onMedium r _ => .onMedium r true
              | .empty | .waiting _ => .empty }
          cl.grantTotal := s.cl.grantTotal + BitVec.ofNat 8 (min room waiting.length)
          cl.statusPending := some (s.cl.statusPending.getD false)
          ec := (s.ec.countN .roleDiscard waiting.length).notify .roleChange (word16 3 2)
          tw := s.tw.requestFlush [.here] }

/-- The listen period ends in DESIGNATED for the top rank of all candidates where none is designated, and with PREEMPT above every
designated one; in STANDBY otherwise, with the ANNOUNCE, ROLE_CHANGE and STATUS (R101, R107, R118). -/
def Obligations.ListenPeriodEnds : Prop :=
  ∀ (s : State) (c : Config), s.resetAsserted = false → s.cf.config = some c → s.eu.role = .listening →
    s.eu.listenTimer ≠ .stopped →
    let partner (m : Station) (q : Peer) : Prop := s.pt.peers[m] = some q ∧ q.segment = c.segment
    let above (m : Station) (q : Peer) : Prop :=
      q.preference < c.preference ∨ (q.preference = c.preference ∧ s.cf.station < m)
    let wins : Prop :=
      ((∀ m q, partner m q → q.role ≠ .designated) ∧ ∀ m q, partner m q → q.role ≠ .disabled → above m q) ∨
        ((∃ m q, partner m q ∧ q.role = .designated) ∧ c.preempt = true ∧
          ∀ m q, partner m q → q.role = .designated → above m q)
    (wins → exec .listenTimerExpiry s = .next (State.arbitrate (State.becomeDesignated { s with eu.listenTimer := .stopped }))) ∧
    (¬wins →
      exec .listenTimerExpiry s =
        .next (State.arbitrate
          (State.refreshDesignated
            { s with
              eu.role := .standby, eu.listenTimer := .stopped
              eu.announceHolder := some ⟨c.segment, .standby, c.preference, c.zones, c.interval⟩
              ec := s.ec.notify .roleChange (word16 1 2)
              cl.statusPending := some (s.cl.statusPending.getD false) })))

/-- The announce timer's expiry reloads it and steps every missed count; peers that reach 4 are removed, with PEER_DOWN in rising
order and one flush of their places; each is then reported removed, upon which the election unit acts and segment designated is
taken anew; in RUNNING the own ANNOUNCE is loaded with the role as the reports left it (R90, R91, R92, R95, R102). Outside STANDBY
the reports leave role, walker and events as they are; what they bring a STANDBY station is RankDecides. -/
def Obligations.AnnounceTimerExpires : Prop :=
  ∀ (s : State) (c : Config), s.resetAsserted = false → s.cf.config = some c → s.pt.announceTimer ≠ .stopped →
    let gone := allStations.filter fun n => s.pt.peers[n].any fun p => decide (3 ≤ p.missed)
    let aged : PeerTable :=
      { peers := Vector.ofFn fun n => (s.pt.peers[n].filter fun p => decide (p.missed < 3)).map fun p =>
          { p with missed := p.missed + 1 }
        announceTimer := .running c.interval }
    let told : State :=
      { s with
        pt := aged, tw := s.tw.requestFlush (gone.map .station)
        ec := gone.foldl (fun e n => e.notify .peerDown (word16 0 (BitVec.ofNat 8 n))) s.ec }
    let reported : State :=
      gone.foldl (fun t n => (t.actOnReport .removed n s.pt.peers[n] none).refreshDesignated) told
    exec .announceTimerExpiry s =
      .next (State.arbitrate
        { reported with
          eu.announceHolder :=
            if s.cf.opState = .running then some ⟨c.segment, reported.eu.role, c.preference, c.zones, c.interval⟩
            else reported.eu.announceHolder }) ∧
    (gone = [] → reported = { s with pt := aged }) ∧
    (s.eu.role ≠ .standby →
      reported.eu.role = s.eu.role ∧ reported.tw = told.tw ∧ reported.ec = told.ec ∧
        reported.eu.takeoverHolder = s.eu.takeoverHolder) ∧
    reported.pt = aged ∧ reported.cf = s.cf ∧ reported.lt = s.lt ∧ reported.fe = s.fe ∧ reported.bq = s.bq ∧
      reported.bp = s.bp ∧ reported.me = s.me

/-! ## The card link -/

/-- A good message that ends, here an IDLE or one of no use: a link that is UP restarts the link-hold timer; a DOWN one comes UP
with both timers and a STATUS of restart flag 0 unless one is pending already, and in RUNNING goes to LISTENING; a message of no use
counts LINK_MSG_ERR, and so does one whose check fails, which does nothing else. A header that is not good counts nothing, and the
receiver hunts on from the byte after its first, through the bytes it had gathered (R104, R126, R149, R150, R151). -/
def Obligations.GoodMessageTaken : Prop :=
  ∀ s : State, s.resetAsserted = false →
    (∀ (h : LinkHeader) (got : List Byte), s.cl.receiver = .other h got →
      let kept : State := { s with cl.receiver := .header [], cl.holdTimer := .running (s.cl.linkHold * 10) }
      let up : State :=
        { kept with
          cl.link := .up, cl.idleTimer := .running (s.cl.linkHold * 5)
          cl.statusPending := some (s.cl.statusPending.getD false) }
      let taken : State :=
        if s.cl.link = .up then kept
        else if s.cf.opState = .running ∧ s.eu.role = .disabled then up.enterListening
        else up
      (h.type = 0x50#8 → h.length = 0 → got = [] → exec .idle s = .next taken.arbitrate) ∧
      (h.type ≠ 0x10#8 → h.type ≠ 0x20#8 → (h.type = 0x41#8 → h.length ≠ 1) → (h.type = 0x50#8 → h.length ≠ 0) →
        exec (.unusableMessage h.type h.length) s = .next (State.arbitrate (taken.count .linkMsgErr))) ∧
      (got.length = h.length.val →
        exec .messageBadCheck s = .next (State.arbitrate (State.count { s with cl.receiver := .header [] } .linkMsgErr)))) ∧
    (∀ b, b ≠ 0xA5#8 → s.headerGoesOn [b] →
      exec (.linkHeaderRejected [b]) s = .next (State.arbitrate { s with cl.receiver := .hunt })) ∧
    ∀ (b : Byte) (front back : List Byte), (∀ x ∈ front, x ≠ 0xA5#8) →
      (s.headerGoesOn (b :: front) →
        exec (.linkHeaderRejected (b :: front)) s = .next (State.arbitrate { s with cl.receiver := .hunt })) ∧
      (s.headerGoesOn (b :: (front ++ 0xA5#8 :: back)) →
        exec (.linkHeaderRejected (b :: (front ++ 0xA5#8 :: back))) s =
          .next (State.arbitrate { s with cl.receiver := .header (0xA5#8 :: back) }))

/-- A REQUEST joins a queue with room and is taken at once by an idle engine, with the operating state standing; a full queue
answers BUSY, and with 4 BUSY answers waiting counts LINK_PROTO_ERR. A RECEIVE_READY sets the accept total where the allowance
stays at 64 or less, and is else refused with cause 3. Both do what every good message does first, in the same event: restart the
link-hold timer, or bring a DOWN link UP (R130, R150, R151, R157, R161, R164). The stage taken, in which a request waits for its
execution, is none of R163's and is the model's (log 12). -/
def Obligations.RequestAndAcceptTaken : Prop :=
  ∀ (s : State) (h : LinkHeader) (got : List Byte), s.resetAsserted = false → s.cl.receiver = .other h got →
    let busy := s.cl.responses.countP fun r => !r.fromEngine
    (∀ body : List Byte, h.type = 0x20#8 → body.length = h.length.val → got <+: body →
      (s.me.queue.length < 4 → s.me.stage ≠ .idle →
        exec (.request h.tag body) s =
          .next (State.arbitrate { s.heard with me.queue := s.me.queue ++ [⟨h.tag, body⟩] })) ∧
      (s.me.queue = [] → s.me.stage = .idle →
        exec (.request h.tag body) s =
          .next (State.arbitrate { s.heard with me.current := some ⟨h.tag, body⟩, me.stage := .taken s.cf.opState })) ∧
      (4 ≤ s.me.queue.length → busy < 4 →
        exec (.request h.tag body) s =
          .next (State.arbitrate { s.heard with cl.responses := s.cl.responses ++ [⟨h.tag, [5, body.headD 0], false⟩] })) ∧
      (4 ≤ s.me.queue.length → 4 ≤ busy →
        exec (.request h.tag body) s = .next (State.arbitrate (s.heard.count .linkProtoErr)))) ∧
    ∀ total : Byte, h.type = 0x41#8 → h.length = 1 → got <+: [total] →
      ((total - s.cl.deliveredTotal).toNat ≤ 64 →
        exec (.receiveReady total) s = .next (State.arbitrate { s.heard with cl.acceptTotal := total })) ∧
      (64 < (total - s.cl.deliveredTotal).toNat →
        exec (.receiveReady total) s =
          .next (State.arbitrate ((s.heard.count .linkProtoErr).raiseAlarm .linkProtocol (word16 3 total))))

/-- A good header takes the receiver to BODY. One of a DATA_OUT takes the oldest OPEN buffer of the reserve, which becomes RECEIVING
and holds the payload as it arrives; with none OPEN the message is an overrun, and while the link is DOWN or the restart window open
it is stale; neither stores anything (R69, R149, R155). That the bytes of the body that arrive come with the command of its header
is the model's (log 15). -/
def Obligations.DataOutHeaderTakes : Prop :=
  ∀ (s : State) (h : LinkHeader) (got : List Byte), s.resetAsserted = false → got.length ≤ h.length.val →
    let n := BitVec.ofNat 16 h.length
    s.headerGoesOn [0xA5#8, h.type, h.tag, hiByte n, loByte n, crc8 [h.type, h.tag, hiByte n, loByte n]] →
    (h.type ≠ 0x10#8 →
      exec (.dataOutHeader h got) s = .next (State.arbitrate { s with cl.receiver := .other h got })) ∧
    (h.type = 0x10#8 →
      (s.cl.link = .down ∨ s.cl.restartWindow = true →
        exec (.dataOutHeader h got) s = .next (State.arbitrate { s with cl.receiver := .body h got .stale })) ∧
      (s.cl.link = .up → s.cl.restartWindow = false → (∀ r ∈ s.bq.reserve, r.state ≠ .opened) →
        exec (.dataOutHeader h got) s = .next (State.arbitrate { s with cl.receiver := .body h got .overrun })) ∧
      ∀ (front back : List ReserveBuf) (b : BufNo), s.cl.link = .up → s.cl.restartWindow = false →
        s.bq.reserve = front ++ ⟨b, .opened⟩ :: back →
        (∀ r ∈ front, r.state ≠ .opened) → (∀ r ∈ front ++ back, r.num ≠ b) →
        exec (.dataOutHeader h got) s =
          .next (State.arbitrate
            { s with
              bq.reserve := front ++ ⟨b, .receiving⟩ :: back, bq.contents := s.bq.contents.set b ((got.drop 6).take 256)
              cl.receiver := .body h got (.into b) }))

/-- A DATA_OUT refused: a stale one changes nothing but for LINK_MSG_ERR on a failed check, and with a good one restarts the
link-hold timer or brings the link UP; an overrun counts LINK_PROTO_ERR and raises LINK_PROTOCOL, cause 2, whatever its check; a
sequence gap of the reserve size or more is refused with cause 1, one beyond the OPEN buffers with cause 2, and the RECEIVING
buffer, the body written into it, is OPEN again in its place (R69, R149, R150, R151, R155, R156). -/
def Obligations.DataOutRefused : Prop :=
  ∀ (s : State) (h : LinkHeader) (got : List Byte) (mode : DataOutMode) (body : List Byte), s.resetAsserted = false →
    s.cl.receiver = .body h got mode → body.length = h.length.val → got <+: body →
    let bad : State := { s with cl.receiver := .header [] }
    let refused (cause : Byte) (t : State) : Host.Outcome State Fault Refusal :=
      .next (State.arbitrate ((t.count .linkProtoErr).raiseAlarm .linkProtocol (word16 cause h.tag)))
    (mode = .stale →
      exec (.dataOut body) s = .next s.heard.arbitrate ∧
        (got = body → exec .messageBadCheck s = .next (State.arbitrate (bad.count .linkMsgErr)))) ∧
    (mode = .overrun →
      exec (.dataOut body) s = refused 2 s.heard ∧ (got = body → exec .messageBadCheck s = refused 2 bad)) ∧
    ∀ b front back, s.cl.link = .up → mode = .into b → s.bq.reserve = front ++ ⟨b, .receiving⟩ :: back →
      (∀ r ∈ front ++ back, r.num ≠ b) →
      let good : State :=
        { bad with
          cl.holdTimer := .running (s.cl.linkHold * 10), bq.contents := s.bq.contents.set b ((body.drop 6).take 256) }
      let d := (h.tag - s.cl.expectedSeq).toNat
      let again := front ++ (⟨b, .opened⟩ : ReserveBuf) :: back
      let opens := (front ++ back).countP fun r => r.state == .opened
      (s.bq.reserve.length ≤ d →
        exec (.dataOut body) s = refused 1 { good with bq.reserve := again } ∧
          (got = body → exec .messageBadCheck s = refused 1 { bad with bq.reserve := again })) ∧
      (d < s.bq.reserve.length → opens < d →
        exec (.dataOut body) s = refused 2 { good with bq.reserve := again } ∧
          (got = body → exec .messageBadCheck s = refused 2 { bad with bq.reserve := again }))

/-- A DATA_OUT accepted with nothing lost: E moves past its tag; with a good check its payload is stored, to 256 bytes, the buffer
is HELD and the decision starts; with a failed one the buffer leaves the reserve by the push rule and LINK_MSG_ERR is counted. Lost
messages first free as many of the oldest OPEN buffers, each leaving the reserve by the push rule with LINK_MSG_LOST (R41, R69, R70,
R149, R150, R156). What the start of a decision does is CardDecisionStarts. -/
def Obligations.DataOutAccepted : Prop :=
  ∀ (s : State) (h : LinkHeader) (got body : List Byte) (b : BufNo) (front back : List ReserveBuf),
    s.resetAsserted = false → s.cl.link = .up → s.cl.receiver = .body h got (.into b) → body.length = h.length.val →
    got <+: body → s.bq.reserve = front ++ ⟨b, .receiving⟩ :: back → (∀ r ∈ front ++ back, r.num ≠ b) →
    let d := (h.tag - s.cl.expectedSeq).toNat
    let bad : State := { s with cl.receiver := .header [] }
    let good : State :=
      { bad with
        cl.holdTimer := .running (s.cl.linkHold * 10), bq.contents := s.bq.contents.set b ((body.drop 6).take 256) }
    (d = 0 →
      exec (.dataOut body) s =
        .next (State.arbitrate
          (State.startCard { good with cl.expectedSeq := h.tag + 1, bq.reserve := front ++ ⟨b, .held⟩ :: back } b body)) ∧
      (got = body →
        exec .messageBadCheck s =
          .next (State.arbitrate
            (State.count
              (State.pushRule { bad with cl.expectedSeq := h.tag + 1, bq.reserve := front ++ back } b)
              .linkMsgErr)))) ∧
    (d < s.bq.reserve.length → d ≤ ((front ++ back).countP fun r => r.state == .opened) →
      exec (.dataOut body) s =
        .next (State.arbitrate
          (State.startCard (State.setReserve { good.freeLost d with cl.expectedSeq := h.tag + 1 } b .held) b body)) ∧
      (got = body →
        exec .messageBadCheck s =
          .next (State.arbitrate
            (State.count (State.releaseReserve { bad.freeLost d with cl.expectedSeq := h.tag + 1 } b) .linkMsgErr)))) ∧
    s.freeLost 0 = s ∧
    ∀ n x before after, s.bq.reserve = before ++ ⟨x, .opened⟩ :: after → (∀ r ∈ before, r.state ≠ .opened) →
      (∀ r ∈ before ++ after, r.num ≠ x) →
      s.freeLost (n + 1) =
        ((State.pushRule { s with bq.reserve := before ++ after } x).count .linkMsgLost).freeLost n

/-- The end of a message sent: the transmitter is free and, while the link is UP, the idle timer restarts. The end of a DATA_IN
releases its buffer by the push rule, counts DELIVERED and advances the delivered total unless the link has gone DOWN since; the end
of a STATUS with restart flag 1 closes the restart window; the idle timer's expiry makes an IDLE ready (R76, R153, R158, R159). That
a message ending while the link is DOWN leaves the idle timer stopped, and that an expired timer reads running with 0 left, is the
model's (log 22). -/
def Obligations.MessagesEnd : Prop :=
  ∀ s : State, s.resetAsserted = false →
    let idleTimer : Timer := if s.cl.link = .up then .running (s.cl.linkHold * 5) else s.cl.idleTimer
    let sent : State := { s with cl.tx := none, cl.idleTimer := idleTimer }
    ((∃ total, s.cl.tx = some (.credit total)) ∨ (∃ e, s.cl.tx = some (.event e)) ∨ s.cl.tx = some .idle →
      exec .messageEnd s = .next sent.arbitrate) ∧
    (∀ op role seg, s.cl.tx = some (.status op role seg false) → exec .statusEnd s = .next sent.arbitrate) ∧
    (∀ op role seg, s.cl.tx = some (.status op role seg true) →
      exec .statusEnd s = .next (State.arbitrate { sent with cl.restartWindow := false })) ∧
    (∀ tag body straddled r, s.cl.tx = some (.dataIn tag body straddled) → s.bq.deliverySlot = some r →
      ∃ t, t = (State.pushRule { sent with bq.deliverySlot := none } r.buf).count .delivered ∧
        exec .dataInEnd s =
          .next (State.arbitrate
            { t with
              cl.deliveredTotal := if straddled = true then s.cl.deliveredTotal else s.cl.deliveredTotal + 1 })) ∧
    (∀ left, s.cl.link = .up → s.cl.idleTimer = .running (left + 1) →
      exec .idleTimerExpiry s = .next (State.arbitrate { s with cl.idleTimer := .running 0 }))

/-- The end of a RESPONSE: the engine's finishes its request, and the next in its queue is taken; a BUSY answer's does nothing
further; the one of a RESTART begins the warm restart (R159, R164, R165, R173). That the idle timer is left alone while the link is
DOWN is the model's (log 22), and so is the stage in which the next request waits for its execution (log 12). -/
def Obligations.ResponsesEnd : Prop :=
  ∀ (s : State) (r : Response) (straps : Station), s.resetAsserted = false → s.cl.tx = some (.response r) →
    let idleTimer : Timer := if s.cl.link = .up then .running (s.cl.linkHold * 5) else s.cl.idleTimer
    let sent : State := { s with cl.tx := none, cl.idleTimer := idleTimer }
    (r.fromEngine = false → exec (.responseEnd straps) s = .next sent.arbitrate) ∧
    (r.fromEngine = true → s.me.stage = .waitSend false →
      (s.me.queue = [] →
        exec (.responseEnd straps) s =
          .next (State.arbitrate { sent with me := ⟨[], none, .idle, false⟩ })) ∧
      ∀ q qs, s.me.queue = q :: qs →
        exec (.responseEnd straps) s =
          .next (State.arbitrate { sent with me := ⟨qs, some q, .taken s.cf.opState, false⟩ })) ∧
    (r.fromEngine = true → s.me.stage = .waitSend true →
      exec (.responseEnd straps) s = .next (State.arbitrate (sent.warmRestart straps)))

/-- The warm restart: LOADING with the straps read again and the image from byte 0; table, walker, pool, peer table, election,
engine and bus port at their start values, the events cleared and the counters kept, the decisions under way without their holds and
their frames not to be delivered; at the card link the link, its timers and its delivery totals are kept, with the link UP the grant
side is zeroed, a STATUS of restart flag 1 pending and the window open (R5, R24, R61, R64, R71, R82, R100, R133, R153, R175, R177,
R188). That the medium is still seen as it is and a response going out no longer ends a request are the model's (log 5, log 14). -/
def Obligations.WarmRestart : Prop :=
  ∀ (s : State) (straps : Station),
    let t := s.warmRestart straps
    let cl := { s.cl with
      responses := []
      tx := match s.cl.tx with
        | some (.response r) => some (.response { r with fromEngine := false })
        | some (.dataIn _ _ _) => none
        | m => m
      receiver := match s.cl.receiver with
        | .body h got _ => .body h got .stale
        | m => m }
    t.cf = ⟨.loading, straps, none, []⟩ ∧ t.lt = State.reset.lt ∧ t.tw = State.reset.tw ∧
      t.fe = {
        card := s.fe.card.map fun d => { d with hold := none }
        backplane := s.fe.backplane.map fun d => { d with overtaken := true } } ∧
      t.bq = { State.reset.bq with contents := s.bq.contents } ∧ t.pt = State.reset.pt ∧ t.eu = State.reset.eu ∧
      t.bp = { State.reset.bp with medium := s.bp.medium } ∧ t.me = State.reset.me ∧
      t.ec = { State.reset.ec with counters := s.ec.counters } ∧
      (s.cl.link = .down → t.cl = cl) ∧
      (s.cl.link = .up →
        t.cl = { cl with
          grantTotal := 0, lastCredit := 0, expectedSeq := 0, statusPending := some true, restartWindow := true })

/-- The card link goes DOWN: timers, receiver, totals and window cleared; the reserve to the free stack, the newest on top, and
every hold cancelled; from DESIGNATED the frames waiting in the slot and the BTQs discarded with ROLE_DISCARD; the delivery queue
emptied with DELIVERY_DROP; each of these buffers on top of the stack in its turn. A frame on the medium and a TAKEOVER in flight are
marked, place LOCAL is flushed, and the transmission and the message being sent go on. The role becomes DISABLED with its ANNOUNCE,
ROLE_CHANGE, a STATUS pending and segment designated taken anew; the queued requests are gone and the current one's answer is to be
discarded. With a RESTART's response still to end, the warm restart follows (R71, R72, R77, R78, R105, R113, R114, R118, R140, R152,
R173, R174). The discard mark on a request taken and not yet executed is the model's (log 12). -/
def Obligations.LinkGoesDown : Prop :=
  ∀ (s : State) (straps : Station) (c : Config), s.resetAsserted = false → s.cl.link = .up →
    s.cf.config = some c ∨ s.eu.role = .disabled →
    let reserve := s.bq.reserve.map ReserveBuf.num
    let waiting : List BufNo := (match s.bq.txSlot with | .waiting r => [r.buf] | .empty | .onMedium _ _ => []) ++
      s.bq.urgentQ.map TxRecord.buf ++ s.bq.normalQ.map TxRecord.buf
    let delivery := s.bq.deliveryQ.map RxRecord.buf
    let down : State :=
      { s with
        cl := { s.cl with
          link := .down, holdTimer := .stopped, idleTimer := .stopped, receiver := .hunt, grantTotal := 0, lastCredit := 0
          expectedSeq := 0, acceptTotal := 0, deliveredTotal := 0, statusPending := none, restartWindow := false, responses := []
          tx := s.cl.tx.map fun m => match m with | .dataIn tag body _ => .dataIn tag body true | m => m }
        fe := { s.fe with card := s.fe.card.map fun d => { d with hold := none } }
        bq := { s.bq with free := delivery.reverse ++ (reserve.reverse ++ s.bq.free), reserve := [], deliveryQ := [] }
        ec := s.ec.countN .deliveryDrop delivery.length
        me := match s.me.stage with
          | .idle => { s.me with queue := [] }
          | .taken _ | .waitWalk => { s.me with queue := [], discardMark := true }
          | .waitSend _ => if s.cl.responses.any (·.fromEngine) then ⟨[], none, .idle, false⟩ else { s.me with queue := [] } }
    let announced : Announce := ⟨c.segment, .disabled, c.preference, c.zones, c.interval⟩
    let t : State := match s.eu.role with
      | .disabled => down
      | .listening | .standby =>
        State.refreshDesignated
          { down with
            eu.role := .disabled, eu.listenTimer := .stopped, eu.announceHolder := some announced
            ec := down.ec.notify .roleChange (word16 (if s.eu.role = .listening then 1 else 2) 0)
            cl.statusPending := some false }
      | .designated =>
        State.refreshDesignated
          { down with
            eu.role := .disabled, eu.takeoverHolder := none, eu.announceHolder := some announced
            bp.inFlight := s.bp.inFlight.map fun f =>
              match f.frame with
              | .takeover _ => { f with dropMark := true }
              | .announce _ => f
            bq := { down.bq with
              free := delivery.reverse ++ (waiting.reverse ++ (reserve.reverse ++ s.bq.free)), urgentQ := [], normalQ := []
              txSlot := match s.bq.txSlot with
                | .onMedium r _ => .onMedium r true
                | .empty | .waiting _ => .empty }
            ec := ((s.ec.countN .roleDiscard waiting.length).countN .deliveryDrop delivery.length).notify .roleChange (word16 3 0)
            tw := s.tw.requestFlush [.here]
            cl.statusPending := some false }
    (s.me.stage ≠ .waitSend true → exec (.linkHoldExpiry straps) s = .next t) ∧
    (s.me.stage = .waitSend true → exec (.linkHoldExpiry straps) s = .next (t.warmRestart straps))

/-! ## Management requests -/

/-- A request refused makes its response with the status and the code answered, and waits for it to be sent: BAD_REQUEST for a body
of no listed form, NOT_ALLOWED where the operating state forbids the request. Under the discard mark the response is discarded, the
request finishes and the next is taken. The operating state is the one that stood when the request was taken (R129, R130, R164,
R165, R166). The stage between the taking and the execution is the model's (log 12). -/
def Obligations.RequestsRefused : Prop :=
  ∀ (s : State) (op : OpState) (tag : Byte) (body : List Byte) (straps : Station), s.resetAsserted = false → s.me.stage = .taken op →
    s.me.current = some ⟨tag, body⟩ →
    let answered (status : Byte) (t : State) : Prop :=
      (s.me.discardMark = false →
        t = { s with
          me.stage := .waitSend false, cl.responses := s.cl.responses ++ [⟨tag, [status, body.headD 0], true⟩] }) ∧
      (s.me.discardMark = true → s.me.queue = [] → t = { s with me := ⟨[], none, .idle, false⟩ }) ∧
      (s.me.discardMark = true → ∀ q qs, s.me.queue = q :: qs → t = { s with me := ⟨qs, some q, .taken s.cf.opState, false⟩ })
    let refused (c : Instr) (status : Byte) : Prop := ∃ t, answered status t ∧ exec c s = .next t.arbitrate
    let blind := op = .loading ∨ op = .configFault
    ((∀ code ∈ body.head?, (code, body.length) ∉
        [(1#8, 3), (2#8, 2), (3#8, 5), (4#8, 3), (5#8, 3), (6#8, 2), (7#8, 1), (8#8, 4), (9#8, 2), (10#8, 1)]) →
      refused .badRequest 4) ∧
    (blind → body.length = 3 → body.head? = some 1#8 → refused .readEntry 6) ∧
    (blind → body.length = 2 → body.head? = some 2#8 → refused .readBucket 6) ∧
    (blind → body.length = 5 → body.head? = some 3#8 → refused .addStatic 6) ∧
    (blind → body.length = 3 → body.head? = some 4#8 → refused .remove 6) ∧
    (blind → body.length = 3 → body.head? = some 5#8 → refused .flush 6) ∧
    (blind → body.length = 2 → body.head? = some 6#8 → refused .readPeer 6) ∧
    (op = .loading → body = [10#8] → refused (.restart straps) 6)

/-- READ_ENTRY answers the entry's record with its way, or NOT_FOUND; READ_BUCKET the bucket's count and its records in rising way
order; neither changes the table (R17, R130, R167). -/
def Obligations.TableReads : Prop :=
  ∀ (s : State) (op : OpState) (tag hi lo : Byte), s.resetAsserted = false → s.me.stage = .taken op → s.me.discardMark = false →
    op ≠ .loading → op ≠ .configFault →
    let answered (body : List Byte) : Host.Outcome State Fault Refusal :=
      .next (State.arbitrate
        { s with me.stage := .waitSend false, cl.responses := s.cl.responses ++ [⟨tag, body, true⟩] })
    let record (w : Way) (x : Entry) : List Byte :=
      [BitVec.ofNat 8 w, hiByte x.eid, loByte x.eid, BitVec.ofNat 8 x.zone,
        match x.place with | .here => 0x40#8 | .station n => BitVec.ofNat 8 n,
        match x.kind with | .dynamic => 0 | .static => 1, BitVec.ofNat 8 x.age]
    (s.me.current = some ⟨tag, [1, hi, lo]⟩ →
      let b := s.lt[(hi ^^^ lo).toNat]
      (∀ (w : Way) (x : Entry), b[w] = some x → x.eid = word16 hi lo →
        (∀ v : Way, v < w → ∀ y ∈ b[v], y.eid ≠ word16 hi lo) → exec .readEntry s = answered ([0, 1] ++ record w x)) ∧
      ((∀ v : Way, ∀ y ∈ b[v], y.eid ≠ word16 hi lo) → exec .readEntry s = answered [1, 1])) ∧
    (s.me.current = some ⟨tag, [2, lo]⟩ →
      let b := s.lt[lo.toNat]
      let held : List (Way × Entry) := [0, 1, 2, 3].filterMap fun w : Way => b[w].map fun x => (w, x)
      exec .readBucket s =
        answered ([0, 2, lo, BitVec.ofNat 8 held.length] ++ held.flatMap fun (w, x) => record w x))

/-- ADD_STATIC refuses BROADCAST, a zone above 7, a place that is none and the own number; else it writes a STATIC entry of age 0 in
the EID's own way, else in the lowest empty way, else in the oldest DYNAMIC entry's, the lowest way on a tie, and answers the way;
with four STATIC entries it answers TABLE_FULL. REMOVE empties the EID's way, or answers NOT_FOUND. Neither counts a learn (R15,
R16, R168). -/
def Obligations.TableWrites : Prop :=
  ∀ (s : State) (op : OpState) (tag hi lo zone place : Byte), s.resetAsserted = false → s.me.stage = .taken op →
    s.me.discardMark = false → op ≠ .loading → op ≠ .configFault →
    let e := word16 hi lo
    let n : BucketNo := (hi ^^^ lo).toFin
    let b := s.lt[n]
    let answered (t : State) (body : List Byte) : Host.Outcome State Fault Refusal :=
      .next (State.arbitrate
        { t with me.stage := .waitSend false, cl.responses := t.cl.responses ++ [⟨tag, body, true⟩] })
    let absent : Prop := ∀ v : Way, ∀ y ∈ b[v], y.eid ≠ e
    let first (w : Way) : Prop := (∃ y, b[w] = some y ∧ y.eid = e) ∧ ∀ v : Way, v < w → ∀ y ∈ b[v], y.eid ≠ e
    (s.me.current = some ⟨tag, [3, hi, lo, zone, place]⟩ →
      (e = 0xFFFF#16 ∨ 7 < zone.toNat ∨ (place ≠ 0x40#8 ∧ 31 < place.toNat) ∨ place.toNat = s.cf.station.val →
        exec .addStatic s = answered s [3, 3]) ∧
      ∀ (z : Zone) (p : Place), e ≠ 0xFFFF#16 → zone.toNat = z.val → p ≠ .station s.cf.station →
        (place = 0x40#8 ∧ p = .here) ∨ (∃ m : Station, place.toNat = m.val ∧ p = .station m) →
        let wrote (w : Way) : Prop :=
          exec .addStatic s = answered { s with lt := s.lt.set n (b.set w (some ⟨e, z, p, .static, 0⟩)) } [0, 3, BitVec.ofNat 8 w]
        (∀ w, first w → wrote w) ∧
        (∀ w : Way, absent → b[w] = none → (∀ v : Way, v < w → b[v] ≠ none) → wrote w) ∧
        (∀ (w : Way) (x : Entry), absent → (∀ v : Way, b[v] ≠ none) → b[w] = some x → x.kind = .dynamic →
          (∀ v : Way, ∀ y ∈ b[v], y.kind = .dynamic → y.age < x.age ∨ (y.age = x.age ∧ w ≤ v)) → wrote w) ∧
        (absent → (∀ v : Way, ∃ y, b[v] = some y ∧ y.kind = .static) → exec .addStatic s = answered s [2, 3])) ∧
    (s.me.current = some ⟨tag, [4, hi, lo]⟩ →
      (∀ w, first w →
        exec .remove s = answered { s with lt := s.lt.set n (b.set w none) } [0, 4, BitVec.ofNat 8 w]) ∧
      (absent → exec .remove s = answered s [1, 4]))

/-- FLUSH refuses a scope above 3, a PLACE that is none or the own number and a ZONE above 7; else the walker is handed the flush,
which starts at once on an IDLE engine and waits on a BUSY one, and the engine waits for the walk (R26, R29, R169). -/
def Obligations.FlushIsHandedOver : Prop :=
  ∀ (s : State) (op : OpState) (tag scope value : Byte), s.resetAsserted = false → s.me.stage = .taken op →
    op ≠ .loading → op ≠ .configFault → s.me.current = some ⟨tag, [5, scope, value]⟩ →
    let handed (f : Scope) : Prop :=
      (s.tw.job = none →
        exec .flush s =
          .next (State.arbitrate
            { s with tw := { s.tw with job := some (.managementFlush f 0), cursor := 0 }, me.stage := .waitWalk })) ∧
      (s.tw.job ≠ none →
        exec .flush s = .next (State.arbitrate { s with tw.pendingFlush := some f, me.stage := .waitWalk }))
    (s.me.discardMark = false →
      3 < scope.toNat ∨ (scope = 1#8 ∧ ((value ≠ 0x40#8 ∧ 31 < value.toNat) ∨ value.toNat = s.cf.station.val)) ∨
        (scope = 2#8 ∧ 7 < value.toNat) →
      exec .flush s =
        .next (State.arbitrate
          { s with me.stage := .waitSend false, cl.responses := s.cl.responses ++ [⟨tag, [3, 5], true⟩] })) ∧
    (scope = 0#8 → handed .allDynamic) ∧
    (scope = 1#8 → value = 0x40#8 → handed (.place .here)) ∧
    (∀ n : Station, scope = 1#8 → value.toNat = n.val → n ≠ s.cf.station → handed (.place (.station n))) ∧
    (∀ z : Zone, scope = 2#8 → value.toNat = z.val → handed (.zone z)) ∧
    (scope = 3#8 → handed .everything)

/-- READ_PEER answers the peer record, NOT_FOUND for an absent peer, BAD_ARGUMENT for a number above 31 and for the own one;
READ_STATUS the sixteen bytes of the status record as the part stands. That the walker job byte is 0 during a management flush, in
which no READ_STATUS is built, is the model's (log 23) (R81, R130, R170). -/
def Obligations.PeerAndStatusReads : Prop :=
  ∀ (s : State) (op : OpState) (tag n : Byte), s.resetAsserted = false → s.me.stage = .taken op → s.me.discardMark = false →
    let answered (body : List Byte) : Host.Outcome State Fault Refusal :=
      .next (State.arbitrate
        { s with me.stage := .waitSend false, cl.responses := s.cl.responses ++ [⟨tag, body, true⟩] })
    let stationByte (d : Option Station) : Byte := match d with | some m => BitVec.ofNat 8 m | none => 0xFF#8
    (s.me.current = some ⟨tag, [6, n]⟩ → op ≠ .loading → op ≠ .configFault →
      (31 < n.toNat ∨ n.toNat = s.cf.station.val → exec .readPeer s = answered [3, 6]) ∧
      ∀ m : Station, n.toNat = m.val → m ≠ s.cf.station →
        (s.pt.peers[m] = none → exec .readPeer s = answered [1, 6]) ∧
        ∀ p, s.pt.peers[m] = some p →
          exec .readPeer s =
            answered [0, 6, n, BitVec.ofNat 8 p.segment, p.role.code, BitVec.ofNat 8 p.preference, p.zones,
              BitVec.ofNat 8 p.interval, BitVec.ofNat 8 p.missed, if p.missed ≤ 1 then 0 else 1]) ∧
    (s.me.current = some ⟨tag, [7]⟩ →
      exec .readStatus s =
        answered [0, 7, s.cf.opState.code, s.eu.role.code, stationByte s.eu.segmentDesignated, BitVec.ofNat 8 s.cf.station,
          match s.cf.config with | some c => BitVec.ofNat 8 c.segment | none => 0xFF#8,
          BitVec.ofNat 8 s.bp.pointer, BitVec.ofNat 8 s.bq.free.length, BitVec.ofNat 8 s.bq.reserve.length,
          BitVec.ofNat 8 s.bq.urgentQ.length, BitVec.ofNat 8 s.bq.normalQ.length, BitVec.ofNat 8 s.bq.deliveryQ.length,
          BitVec.ofNat 8 s.ec.queue.length,
          match s.tw.job with | some (.internalFlush _) => 1 | some .sweep => 3 | some (.managementFlush _ _) | none => 0,
          BitVec.ofNat 8 s.tw.cursor,
          BitVec.ofNat 8 ((if s.tw.pendingPlaces = [] then 0 else 1) + if s.tw.sweepPending then 4 else 0),
          BitVec.ofNat 8 ((if s.ec.alarms.dupStation then 1 else 0) + (if s.ec.alarms.dualActive then 2 else 0) +
            (if s.ec.alarms.configFault then 4 else 0) + if s.ec.alarms.linkProtocol then 8 else 0)])

/-- READ_COUNTERS answers the counters of its range and with clear 1 sets those, and no others, to 0; ACK_EVENT clears the alarm
named and takes its unsent record from the queue, the record's lost count joining the unit's; RESTART answers OK, or, its link gone
DOWN before, begins the warm restart (R130, R171, R172, R173, R180). That last case is the model's reading (log 13). -/
def Obligations.CountersAlarmsRestart : Prop :=
  ∀ (s : State) (op : OpState) (tag : Byte) (straps : Station), s.resetAsserted = false → s.me.stage = .taken op →
    let answered (t : State) (restart : Bool) (body : List Byte) : Host.Outcome State Fault Refusal :=
      .next (State.arbitrate
        { t with me.stage := .waitSend restart, cl.responses := t.cl.responses ++ [⟨tag, body, true⟩] })
    (∀ first count clear : Byte, s.me.discardMark = false → s.me.current = some ⟨tag, [8, first, count, clear]⟩ →
      (28 < first.toNat + count.toNat ∨ 1 < clear.toNat → exec .readCounters s = answered s false [3, 8]) ∧
      (first.toNat + count.toNat ≤ 28 →
        let values := (List.range count.toNat).flatMap fun i =>
          let v := s.ec.counters.toList.getD (first.toNat + i) 0
          [v.extractLsb' 24 8, v.extractLsb' 16 8, v.extractLsb' 8 8, v.extractLsb' 0 8]
        (clear = 0#8 → exec .readCounters s = answered s false ([0, 8, first, count] ++ values)) ∧
        (clear = 1#8 →
          exec .readCounters s =
            answered
              { s with ec.counters := Vector.ofFn fun i : Fin 28 =>
                if first.toNat ≤ i.val ∧ i.val < first.toNat + count.toNat then 0#32 else s.ec.counters[i] }
              false ([0, 8, first, count] ++ values)))) ∧
    (∀ code : Byte, s.me.discardMark = false → s.me.current = some ⟨tag, [9, code]⟩ →
      (code ∉ [0x81#8, 0x82#8, 0x83#8, 0x84#8] → exec .ackEvent s = answered s false [3, 9]) ∧
      ∀ k : EventKind, k.isAlarm = true → k.code = code →
        (s.ec.alarms.has k = false → exec .ackEvent s = answered s false [0, 9]) ∧
        (s.ec.alarms.has k = true →
          ((∀ r ∈ s.ec.queue, r.kind ≠ k) →
            exec .ackEvent s = answered { s with ec.alarms := s.ec.alarms.put k false } false [0, 9]) ∧
          ∀ r front back, s.ec.queue = front ++ r :: back → r.kind = k → (∀ x ∈ front ++ back, x.kind ≠ k) →
            exec .ackEvent s =
              answered
                { s with
                  ec.alarms := s.ec.alarms.put k false, ec.queue := front ++ back
                  ec.lost := min 255 (s.ec.lost + r.lost) }
                false [0, 9])) ∧
    (s.me.current = some ⟨tag, [10]⟩ → op ≠ .loading →
      (s.me.discardMark = false → exec (.restart straps) s = answered s true [0, 10]) ∧
      (s.me.discardMark = true → exec (.restart straps) s = .next (State.arbitrate (s.warmRestart straps))))

/-! ## The table walker -/

/-- The sweep timer's expiry reloads it and raises a sweep: merged when one is pending or running, started at once by an IDLE
engine, else pending. An internal flush request joins its places to the pending set, or starts with them on an IDLE engine; an empty
one does nothing (R25, R27, R28, R29). -/
def Obligations.WalkerJobsAreRaised : Prop :=
  (∀ (s : State) (c : Config), s.resetAsserted = false → s.cf.config = some c → s.tw.sweepTimer ≠ .stopped →
    let reloaded := { s.tw with sweepTimer := .running c.sweepPeriod }
    (s.tw.sweepPending = true ∨ s.tw.job = some .sweep →
      exec .sweepTimerExpiry s = .next (State.arbitrate { s with tw := reloaded })) ∧
    (s.tw.sweepPending = false → s.tw.job = none →
      exec .sweepTimerExpiry s =
        .next (State.arbitrate { s with tw := { reloaded with job := some .sweep, cursor := 0 } })) ∧
    (s.tw.sweepPending = false → s.tw.job ≠ none → s.tw.job ≠ some .sweep →
      exec .sweepTimerExpiry s = .next (State.arbitrate { s with tw := { reloaded with sweepPending := true } }))) ∧
  ∀ (w : Walker) (places : List Place),
    (places = [] → w.requestFlush places = w) ∧
    (places ≠ [] →
      ∃ joined : List Place, joined.Nodup ∧ (∀ p, p ∈ joined ↔ p ∈ w.pendingPlaces ∨ p ∈ places) ∧
        (w.job = none →
          w.requestFlush places = { w with pendingPlaces := [], job := some (.internalFlush joined), cursor := 0 }) ∧
        (w.job ≠ none → w.requestFlush places = { w with pendingPlaces := joined }))

/-- A visit keeps every entry in its way: an internal flush removes the DYNAMIC entries at its places, a management flush those its
scope selects, adding them to its removed count, and a sweep those of age AGE_LIMIT, counted in AGED_OUT, stepping the age of the
other DYNAMIC ones; no other bucket changes and the cursor moves on (R18, R30, R31, R32, R34). -/
def Obligations.BucketIsVisited : Prop :=
  ∀ (s : State) (c : Config), s.resetAsserted = false → s.cf.config = some c → s.tw.cursor ≠ 255 →
    let b := s.lt[s.tw.cursor]
    let kept (test : Entry → Bool) (w : Way) : Option Entry := b[w].filter fun x => !test x
    let removed (test : Entry → Bool) : Nat := ([0, 1, 2, 3] : List Way).countP fun w => b[w].any test
    let visited (f : Way → Option Entry) : State := { s with lt := s.lt.set s.tw.cursor (Vector.ofFn f), tw.cursor := s.tw.cursor + 1 }
    (∀ places, s.tw.job = some (.internalFlush places) →
      exec .bucketVisit s =
        .next (State.arbitrate (visited (kept fun x => x.kind == .dynamic && places.contains x.place)))) ∧
    (∀ scope count, s.tw.job = some (.managementFlush scope count) →
      let test (x : Entry) : Bool := match scope with
        | .allDynamic => x.kind == .dynamic
        | .place p => x.kind == .dynamic && x.place == p
        | .zone z => x.kind == .dynamic && x.zone == z
        | .everything => true
      exec .bucketVisit s =
        .next (State.arbitrate { visited (kept test) with tw.job := some (.managementFlush scope (count + removed test)) })) ∧
    (s.tw.job = some .sweep →
      let old (x : Entry) : Bool := x.kind == .dynamic && x.age == c.ageLimit
      exec .bucketVisit s =
        .next (State.arbitrate
          (State.countN
            (visited fun w => (kept old w).map fun x => if x.kind = .dynamic then { x with age := x.age + 1 } else x)
            .agedOut (removed old))))

/-- The visit to bucket 255 treats it as any other, by the kind of the job, and completes the job: the cursor goes to 0 and the
next job starts, an internal flush with the whole pending set first, then the pending management flush, then the sweep; a
management flush's removed count is answered by its FLUSH; under the discard mark its response is discarded, the request finishes
and the next is taken (R18, R29, R30, R31, R32, R33, R34, R164, R165, R169). The stage in which that next request waits for its
execution is the model's (log 12). -/
def Obligations.JobCompletes : Prop :=
  ∀ (s : State) (j : Job) (c : Config), s.resetAsserted = false → s.cf.config = some c → s.tw.cursor = 255 → s.tw.job = some j →
    let b := s.lt[(255 : BucketNo)]
    let test (x : Entry) : Bool := match j with
      | .internalFlush places => x.kind == .dynamic && places.contains x.place
      | .managementFlush .allDynamic _ => x.kind == .dynamic
      | .managementFlush (.place p) _ => x.kind == .dynamic && x.place == p
      | .managementFlush (.zone z) _ => x.kind == .dynamic && x.zone == z
      | .managementFlush .everything _ => true
      | .sweep => x.kind == .dynamic && x.age == c.ageLimit
    let removed := ([0, 1, 2, 3] : List Way).countP fun w => b[w].any test
    let kept (w : Way) : Option Entry := (b[w].filter fun x => !test x).map fun x =>
      if j = .sweep ∧ x.kind = .dynamic then { x with age := x.age + 1 } else x
    let visited : State :=
      { s with
        lt := s.lt.set 255 (Vector.ofFn kept)
        ec := if j = .sweep then s.ec.countN .agedOut removed else s.ec }
    let tw : Walker :=
      if s.tw.pendingPlaces ≠ [] then
        { s.tw with job := some (.internalFlush s.tw.pendingPlaces), cursor := 0, pendingPlaces := [] }
      else match s.tw.pendingFlush with
        | some scope => { s.tw with job := some (.managementFlush scope 0), cursor := 0, pendingFlush := none }
        | none => { s.tw with job := if s.tw.sweepPending then some .sweep else none, cursor := 0, sweepPending := false }
    ((∀ scope count, j ≠ .managementFlush scope count) →
      exec .bucketVisit s = .next (State.arbitrate { visited with tw := tw })) ∧
    ∀ scope count tag body, j = .managementFlush scope count → s.me.stage = .waitWalk → s.me.current = some ⟨tag, body⟩ →
      let total := count + removed
      (s.me.discardMark = false →
        exec .bucketVisit s =
          .next (State.arbitrate
            { visited with
              tw := tw, me.stage := .waitSend false
              cl.responses := s.cl.responses ++
                [⟨tag, [0, body.headD 0, BitVec.ofNat 8 (total / 256), BitVec.ofNat 8 total], true⟩] })) ∧
      (s.me.discardMark = true → s.me.queue = [] →
        exec .bucketVisit s = .next (State.arbitrate { visited with tw := tw, me := ⟨[], none, .idle, false⟩ })) ∧
      (s.me.discardMark = true → ∀ q qs, s.me.queue = q :: qs →
        exec .bucketVisit s =
          .next (State.arbitrate { visited with tw := tw, me := ⟨qs, some q, .taken s.cf.opState, false⟩ }))

/-! ## Learning and forwarding -/

/-- The learn claim: a new entry in the lowest empty way, else in the way of the oldest DYNAMIC entry, the lowest on a tie, with
LEARN_NEW; LEARN_REFUSED and no change against four STATIC entries; a DYNAMIC entry for the EID refreshed at its place, or moved
with LEARN_MOVE, from LOCAL to a station with LOCAL_DISPLACED; a STATIC one unchanged, with STATIC_CONFLICT where its place differs
(R9 to R14). -/
def Obligations.LearnTakesItsCase : Prop :=
  ∀ (s : State) (e : Eid) (z : Zone) (p : Place),
    let n : BucketNo := (hiByte e ^^^ loByte e).toFin
    let b := s.lt[n]
    let absent : Prop := ∀ v : Way, ∀ y ∈ b[v], y.eid ≠ e
    let full : Prop := ∀ v : Way, b[v] ≠ none
    let created (w : Way) : Table := s.lt.set n (b.set w (some ⟨e, z, p, .dynamic, 0⟩))
    (∀ w : Way, absent → b[w] = none → (∀ v : Way, v < w → b[v] ≠ none) →
      s.learnClaim e z p = { s with lt := created w, ec := s.ec.count .learnNew }) ∧
    (∀ (w : Way) (x : Entry), absent → full → b[w] = some x → x.kind = .dynamic →
      (∀ v : Way, ∀ y ∈ b[v], y.kind = .dynamic → y.age < x.age ∨ (y.age = x.age ∧ w ≤ v)) →
      s.learnClaim e z p = { s with lt := created w, ec := s.ec.count .learnNew }) ∧
    (absent → full → (∀ v : Way, ∀ y ∈ b[v], y.kind = .static) →
      s.learnClaim e z p = { s with ec := s.ec.count .learnRefused }) ∧
    ∀ (w : Way) (x : Entry), b[w] = some x → x.eid = e → (∀ v : Way, v ≠ w → ∀ y ∈ b[v], y.eid ≠ e) →
      (x.kind = .dynamic → x.place = p → s.learnClaim e z p = { s with lt := created w }) ∧
      (x.kind = .dynamic → x.place ≠ p →
        (x.place = .here →
          s.learnClaim e z p =
            { s with lt := created w, ec := (s.ec.count .learnMove).notify .localDisplaced e }) ∧
        (x.place ≠ .here → s.learnClaim e z p = { s with lt := created w, ec := s.ec.count .learnMove })) ∧
      (x.kind = .static → x.place ≠ p → s.learnClaim e z p = { s with ec := s.ec.count .staticConflict }) ∧
      (x.kind = .static → x.place = p → s.learnClaim e z p = s)

/-- A card decision starts: STANDBY_DROP outside RUNNING and DESIGNATED, LINK_MSG_ERR for a body that is not well formed, ZONE_DROP
outside the own zones, else its learn with LEARN on, else the flood of a BROADCAST or the lookup of its destination. Decisions end
in order, so a discard whose turn has come counts its counter and releases its buffer by the push rule, and one behind others waits
(R39, R41, R42, R43, R44, R45, R46, R52). The waiting is the model's reading of R39 (log 9). -/
def Obligations.CardDecisionStarts : Prop :=
  ∀ (s : State) (b : BufNo) (body : List Byte) (c : Config), s.cf.config = some c →
    (s.fe.card.head?.any fun d => d.stage.isDiscard) = false → (∃ r ∈ s.bq.reserve, r.num = b) →
    let goes (stage : CardStage) : Prop := s.startCard b body = { s with fe.card := s.fe.card ++ [⟨some b, stage⟩] }
    let ends (k : Counter) : Prop :=
      (s.fe.card = [] → s.startCard b body = (s.count k).releaseReserve b) ∧ (s.fe.card ≠ [] → goes (.discard k))
    let byte (i : Nat) : Byte := body.getD i 0
    let src := word16 (byte 2) (byte 3)
    let wellFormed := 7 ≤ body.length ∧ body.length ≤ 262 ∧ (byte 4).toNat ≤ 7 ∧ (byte 5).toNat ≤ 1 ∧ src ≠ 0xFFFF#16
    (s.cf.opState ≠ .running ∨ s.eu.role ≠ .designated → ends .standbyDrop) ∧
    (s.cf.opState = .running → s.eu.role = .designated →
      (¬wellFormed → ends .linkMsgErr) ∧
      ∀ z : Zone, wellFormed → (byte 4).toNat = z.val →
        let f : CardFrame := ⟨word16 (byte 0) (byte 1), src, z, byte 5 == 1#8, body.length - 6⟩
        (hasZone c.zones z = false → ends .zoneDrop) ∧
        (hasZone c.zones z = true → c.learn = true → goes (.learn f)) ∧
        (hasZone c.zones z = true → c.learn = false →
          (f.dstEid ≠ 0xFFFF#16 → goes (.lookup f)) ∧ (f.dstEid = 0xFFFF#16 → goes (.flood f))))

/-- A card decision goes on: its learn is made at place LOCAL in RUNNING with LEARN on, and is followed by the flood of a BROADCAST
or by its lookup; a hit at LOCAL is discarded; for a hit at a station the peer table is read, and a present station gets the frame
where its zones hold the frame's; a miss, and a hit at an absent station, is dropped with DROP_UNKNOWN and flooded without it; the
flood reads the peer table for a present DESIGNATED peer with the zone. The decisions whose turn has come then end, oldest first
(R8, R39, R45, R46, R47, R48, R49, R50, R52, R53, R71). That each read of the peer table is an event of its own, made by LOOKUP, is
the model's (log 8), that a discard waits for its turn its reading of R39 (log 9), and STANDBY_DROP for a cancelled hold at whatever
step its reading of R71 (log 10). -/
def Obligations.CardDecisionGoesOn : Prop :=
  ∀ (s : State) (c : Config) (i : Nat) (hold : Option BufNo) (f : CardFrame), s.resetAsserted = false → s.cf.config = some c →
    let step (t : State) (stage : CardStage) : Host.Outcome State Fault Refusal :=
      .next (State.arbitrate (t.endLeading (s.fe.card.set i ⟨hold, stage⟩)))
    let receiver := ∃ n p, s.pt.peers[(n : Station)] = some p ∧ p.role = .designated ∧ hasZone p.zones f.zone = true
    let bucket := s.lt[(hiByte f.dstEid ^^^ loByte f.dstEid).toNat]
    let missed : Prop :=
      (c.dropUnknown = true → exec (.lookup .card i) s = step s (.discard .unknownDrop)) ∧
      (c.dropUnknown = false → exec (.lookup .card i) s = step s (.flood f))
    (s.fe.card[i]? = some ⟨hold, .learn f⟩ →
      let learned := if s.cf.opState = .running ∧ c.learn = true then s.learnClaim f.srcEid f.zone .here else s
      (f.dstEid ≠ 0xFFFF#16 → exec (.learn .card i) s = step learned (.lookup f)) ∧
      (f.dstEid = 0xFFFF#16 → exec (.learn .card i) s = step learned (.flood f))) ∧
    (s.fe.card[i]? = some ⟨hold, .lookup f⟩ →
      ((∀ v : Way, ∀ y ∈ bucket[v], y.eid ≠ f.dstEid) → missed) ∧
      ∀ (w : Way) (x : Entry), bucket[w] = some x → x.eid = f.dstEid →
        (∀ v : Way, v ≠ w → ∀ y ∈ bucket[v], y.eid ≠ f.dstEid) →
        (x.place = .here → exec (.lookup .card i) s = step s (.discard .localFiltered)) ∧
        ∀ n : Station, x.place = .station n → exec (.lookup .card i) s = step s (.peer f n)) ∧
    (∀ n : Station, s.fe.card[i]? = some ⟨hold, .peer f n⟩ →
      (s.pt.peers[n] = none → missed) ∧
      ∀ p, s.pt.peers[n] = some p →
        (hasZone p.zones f.zone = true → exec (.lookup .card i) s = step s (.handover f (.station n))) ∧
        (hasZone p.zones f.zone = false → exec (.lookup .card i) s = step s (.discard .zoneDrop))) ∧
    (s.fe.card[i]? = some ⟨hold, .flood f⟩ →
      (receiver → exec (.lookup .card i) s = step s (.handover f .all)) ∧
      (¬receiver → exec (.lookup .card i) s = step s (.discard .floodPruned))) ∧
    s.endLeading [] = { s with fe.card := [] } ∧
    ∀ d ds,
      (d.stage.isDiscard = false → s.endLeading (d :: ds) = { s with fe.card := d :: ds }) ∧
      ∀ k, d.stage = .discard k →
        (d.hold = none → s.endLeading (d :: ds) = (s.count .standbyDrop).endLeading ds) ∧
        ∀ b, d.hold = some b → (∃ r ∈ s.bq.reserve, r.num = b) →
          s.endLeading (d :: ds) = ((s.count k).releaseReserve b).endLeading ds

/-- A backplane decision goes on: its learn is made at the sender's place in RUNNING with LEARN on; what its tests left is then
done, nothing, a lookup or the hand-over; a lookup lets the frame go on a hit at a station and hands it over on a miss or a hit at
LOCAL. Decisions over at the head of their queue end (R8, R39, R56, R57, R58, R59). That one over behind others waits is the model's
reading of R39 (log 9), that no learn is made at the own number its guard (log 11). -/
def Obligations.BackplaneDecisionGoesOn : Prop :=
  ∀ (s : State) (c : Config) (i : Nat) (overtaken : Bool) (f : DataFrame), s.resetAsserted = false → s.cf.config = some c →
    let step (t : State) (stage : BackplaneStage) : Host.Outcome State Fault Refusal :=
      .next (State.arbitrate
        { t with fe.backplane := (s.fe.backplane.set i ⟨overtaken, stage⟩).dropWhile BackplaneDecision.isOver })
    let bucket := s.lt[(hiByte f.dstEid ^^^ loByte f.dstEid).toNat]
    (∀ plan, s.fe.backplane[i]? = some ⟨overtaken, .learn f plan⟩ →
      let learned :=
        if s.cf.opState = .running ∧ c.learn = true ∧ f.source ≠ s.cf.station then
          s.learnClaim f.srcEid f.zone (.station f.source)
        else s
      (plan = .letGo → exec (.learn .backplane i) s = step learned .ended) ∧
      (plan = .lookup → exec (.learn .backplane i) s = step learned (.lookup f)) ∧
      (plan = .deliver → exec (.learn .backplane i) s = step learned (.handover f))) ∧
    (s.fe.backplane[i]? = some ⟨overtaken, .lookup f⟩ →
      ((∀ v : Way, ∀ y ∈ bucket[v], y.eid ≠ f.dstEid) → exec (.lookup .backplane i) s = step s (.handover f)) ∧
      ∀ (w : Way) (x : Entry), bucket[w] = some x → x.eid = f.dstEid →
        (∀ v : Way, v ≠ w → ∀ y ∈ bucket[v], y.eid ≠ f.dstEid) →
        (x.place = .here → exec (.lookup .backplane i) s = step s (.handover f)) ∧
        (x.place ≠ .here → exec (.lookup .backplane i) s = step s .ended))

/-- The hand-over of a card frame adds its record, its buffer leaving the reserve, to the BTQ of its class; a role no longer
DESIGNATED counts STANDBY_DROP, a full BTQ BTQ_DROP, and the buffer goes by the push rule; with its hold cancelled the frame counts
STANDBY_DROP alone. The hand-over of a frame for the card: ROLE_DISCARD where the role is no longer DESIGNATED or the state has
become LOADING since the frame's decision started, POOL_DROP with the free stack empty, DELIVERY_DROP with 32 records waiting, the
popped buffer going by the push rule; else the frame is copied into the top free buffer and its record joins the delivery queue
(R51, R52, R60, R61, R63, R67, R71, R73, R76). -/
def Obligations.FramesAreHandedOver : Prop :=
  ∀ s : State, s.resetAsserted = false →
    (∀ (hold : Option BufNo) (f : CardFrame) (dest : Dest) (ds : List CardDecision),
      s.fe.card = ⟨hold, .handover f dest⟩ :: ds →
      let ended (t : State) : Host.Outcome State Fault Refusal := .next (State.arbitrate (t.endLeading ds))
      let full := if f.urgent = true then 16 ≤ s.bq.urgentQ.length else 32 ≤ s.bq.normalQ.length
      (hold = none → exec .btqHandover s = ended (s.count .standbyDrop)) ∧
      ∀ b before after st, hold = some b → s.bq.reserve = before ++ ⟨b, st⟩ :: after → (∀ r ∈ before, r.num ≠ b) →
        let out : State := { s with bq.reserve := before ++ after }
        let dropped (k : Counter) : Host.Outcome State Fault Refusal := ended ((out.count k).pushRule b)
        let record : TxRecord := ⟨b, dest, f.urgent, f.zone, f.dstEid, f.srcEid, f.length, 0⟩
        (s.eu.role ≠ .designated → exec .btqHandover s = dropped .standbyDrop) ∧
        (s.eu.role = .designated → full → exec .btqHandover s = dropped .btqDrop) ∧
        (s.eu.role = .designated → ¬full →
          (f.urgent = true → exec .btqHandover s = ended { out with bq.urgentQ := s.bq.urgentQ ++ [record] }) ∧
          (f.urgent = false → exec .btqHandover s = ended { out with bq.normalQ := s.bq.normalQ ++ [record] }))) ∧
    ∀ (overtaken : Bool) (f : DataFrame) (ds : List BackplaneDecision), s.fe.backplane = ⟨overtaken, .handover f⟩ :: ds →
      let ended (t : State) : Host.Outcome State Fault Refusal :=
        .next (State.arbitrate { t with fe.backplane := ds.dropWhile BackplaneDecision.isOver })
      (overtaken = true ∨ s.eu.role ≠ .designated → exec .deliveryHandover s = ended (s.count .roleDiscard)) ∧
      (overtaken = false → s.eu.role = .designated → s.bq.free = [] → exec .deliveryHandover s = ended (s.count .poolDrop)) ∧
      ∀ b rest, overtaken = false → s.eu.role = .designated → s.bq.free = b :: rest →
        (32 ≤ s.bq.deliveryQ.length →
          exec .deliveryHandover s = ended ((State.pushRule { s with bq.free := rest } b).count .deliveryDrop)) ∧
        (s.bq.deliveryQ.length < 32 →
          exec .deliveryHandover s =
            ended
              { s with
                bq.free := rest, bq.contents := s.bq.contents.set b f.payload
                bq.deliveryQ := s.bq.deliveryQ ++
                  [⟨b, f.dest, f.urgent, f.zone, f.dstEid, f.srcEid, f.payload.length, f.source⟩] })

/-! ## What every step keeps -/

/-- The seven holders of buffers together hold each of the 64 buffers exactly once, after every step; the RECEIVING buffer is the
one a DATA_OUT is received into, and the HELD ones are those the decisions under way hold (R63, R66, R71). -/
def Obligations.PoolStaysWhole : Prop :=
  ∀ s t : State, step s = .next t → s.poolWhole → t.poolWhole ∧ (s.reserveMatches → t.reserveMatches)

/-- The queues keep to their depths and the attempt counts below 16, the reserve to LOCAL_CREDITS and to nothing where no credit can
be outstanding, the event queue and the lost count to their bounds with one record of a set alarm at most, after every step (R66,
R73, R75, R76, R177, R179). -/
def Obligations.BoundsAreKept : Prop :=
  ∀ s t : State, step s = .next t →
    (s.depthsKept → t.depthsKept) ∧ (s.attemptsKept → t.attemptsKept) ∧ (s.reserveKept → t.reserveKept) ∧
      (s.eventsKept → t.eventsKept)

/-- After every step the role is DISABLED exactly while the part is not RUNNING or its link is DOWN, outside DESIGNATED no data
frame waits, the listen timer runs exactly in LISTENING, and a TAKEOVER waits, or goes out unmarked, in DESIGNATED alone (R66, R77,
R98, R104, R107, R113). -/
def Obligations.RoleStaysSound : Prop :=
  ∀ s t : State, step s = .next t → s.roleKept →
    t.roleKept ∧ (s.holdsNothing → t.holdsNothing) ∧ (s.electionKept → t.electionKept)

/-- After every step a configuration in its ranges stands exactly outside LOADING and CONFIG_FAULT, no peer entry is out of range or
of the own number, every location entry is in its own bucket, once, with a legal EID, place and age, no decision learns BROADCAST,
and the oldest decision of either side is not over (R1, R2, R3, R4, R8, R34, R39, R81, R183). -/
def Obligations.TablesStaySound : Prop :=
  ∀ s t : State, step s = .next t →
    (s.configKept → t.configKept) ∧ (s.peersKept → t.peersKept) ∧ (s.learnsKept → t.learnsKept) ∧
      (s.headsKept → t.headsKept) ∧ (s.configKept → s.learnsKept → s.tableKept → t.tableKept)

/-- After every step the transmitter drives for exactly one frame, in RUNNING, and is OFF for none; sync is SYNCED exactly in
RUNNING and SILENT, and a ladder stands only on an idle medium (R74, R133, R134, R138, R144). -/
def Obligations.BusStaysSound : Prop :=
  ∀ s t : State, step s = .next t → s.transmitterKept → t.transmitterKept ∧ (s.ladderKept → t.ladderKept)

/-- After every step a DOWN link has its totals at 0, its timers stopped and its window closed, an UP one has both timers running,
the delivery slot is full exactly while a DATA_IN goes out, and an idle transmitter of an UP link has nothing ready (R148, R152,
R158, R159). -/
def Obligations.LinkStaysSound : Prop :=
  ∀ s t : State, step s = .next t →
    (s.linkKept → t.linkKept) ∧ (s.deliveryKept → t.deliveryKept) ∧ (s.arbiterKept → t.arbiterKept)

/-- After every step the request queue and the BUSY answers keep to their depths, and the engine has one response of its own out
exactly in WAIT_SEND and one management flush exactly in WAIT_WALK; an IDLE walker has its cursor at 0 and nothing pending (R23,
R26, R29, R161, R163, R164, R165). -/
def Obligations.EngineStaysSound : Prop :=
  ∀ s t : State, step s = .next t → (s.engineKept → t.engineKept) ∧ (s.walkerKept → t.walkerKept)

/-- The part right after reset is as every step keeps it. -/
def Obligations.ResetIsLawful : Prop :=
  let s := State.reset
  s.poolWhole ∧ s.reserveMatches ∧ s.electionKept ∧ s.depthsKept ∧ s.attemptsKept ∧ s.reserveKept ∧ s.eventsKept ∧ s.roleKept ∧ s.holdsNothing ∧ s.configKept ∧
    s.peersKept ∧ s.learnsKept ∧ s.headsKept ∧ s.tableKept ∧ s.transmitterKept ∧ s.ladderKept ∧ s.linkKept ∧ s.deliveryKept ∧
    s.arbiterKept ∧ s.engineKept ∧ s.walkerKept
end

