-- ==== Sys2Proof/Laws/State.lean ====
section
/-! SUPPORT. What each update of the state leaves as it was, field by field; all true by unfolding, for `simp`. -/

namespace Sys2Proof.Machine

variable (s : State)

@[simp] theorem State.count_resetAsserted (c : Counter) : (s.count c).resetAsserted = s.resetAsserted := rfl
@[simp] theorem State.count_cf (c : Counter) : (s.count c).cf = s.cf := rfl
@[simp] theorem State.count_lt (c : Counter) : (s.count c).lt = s.lt := rfl
@[simp] theorem State.count_tw (c : Counter) : (s.count c).tw = s.tw := rfl
@[simp] theorem State.count_fe (c : Counter) : (s.count c).fe = s.fe := rfl
@[simp] theorem State.count_bq (c : Counter) : (s.count c).bq = s.bq := rfl
@[simp] theorem State.count_pt (c : Counter) : (s.count c).pt = s.pt := rfl
@[simp] theorem State.count_eu (c : Counter) : (s.count c).eu = s.eu := rfl
@[simp] theorem State.count_bp (c : Counter) : (s.count c).bp = s.bp := rfl
@[simp] theorem State.count_cl (c : Counter) : (s.count c).cl = s.cl := rfl
@[simp] theorem State.count_me (c : Counter) : (s.count c).me = s.me := rfl
@[simp] theorem State.count_pending (c : Counter) : (s.count c).pending = s.pending := rfl

@[simp] theorem State.countN_resetAsserted (c : Counter) (n : Nat) : (s.countN c n).resetAsserted = s.resetAsserted := rfl
@[simp] theorem State.countN_cf (c : Counter) (n : Nat) : (s.countN c n).cf = s.cf := rfl
@[simp] theorem State.countN_lt (c : Counter) (n : Nat) : (s.countN c n).lt = s.lt := rfl
@[simp] theorem State.countN_tw (c : Counter) (n : Nat) : (s.countN c n).tw = s.tw := rfl
@[simp] theorem State.countN_fe (c : Counter) (n : Nat) : (s.countN c n).fe = s.fe := rfl
@[simp] theorem State.countN_bq (c : Counter) (n : Nat) : (s.countN c n).bq = s.bq := rfl
@[simp] theorem State.countN_pt (c : Counter) (n : Nat) : (s.countN c n).pt = s.pt := rfl
@[simp] theorem State.countN_eu (c : Counter) (n : Nat) : (s.countN c n).eu = s.eu := rfl
@[simp] theorem State.countN_bp (c : Counter) (n : Nat) : (s.countN c n).bp = s.bp := rfl
@[simp] theorem State.countN_cl (c : Counter) (n : Nat) : (s.countN c n).cl = s.cl := rfl
@[simp] theorem State.countN_me (c : Counter) (n : Nat) : (s.countN c n).me = s.me := rfl
@[simp] theorem State.countN_pending (c : Counter) (n : Nat) : (s.countN c n).pending = s.pending := rfl

@[simp] theorem State.notify_resetAsserted (k : EventKind) (a : BitVec 16) : (s.notify k a).resetAsserted = s.resetAsserted := rfl
@[simp] theorem State.notify_cf (k : EventKind) (a : BitVec 16) : (s.notify k a).cf = s.cf := rfl
@[simp] theorem State.notify_lt (k : EventKind) (a : BitVec 16) : (s.notify k a).lt = s.lt := rfl
@[simp] theorem State.notify_tw (k : EventKind) (a : BitVec 16) : (s.notify k a).tw = s.tw := rfl
@[simp] theorem State.notify_fe (k : EventKind) (a : BitVec 16) : (s.notify k a).fe = s.fe := rfl
@[simp] theorem State.notify_bq (k : EventKind) (a : BitVec 16) : (s.notify k a).bq = s.bq := rfl
@[simp] theorem State.notify_pt (k : EventKind) (a : BitVec 16) : (s.notify k a).pt = s.pt := rfl
@[simp] theorem State.notify_eu (k : EventKind) (a : BitVec 16) : (s.notify k a).eu = s.eu := rfl
@[simp] theorem State.notify_bp (k : EventKind) (a : BitVec 16) : (s.notify k a).bp = s.bp := rfl
@[simp] theorem State.notify_cl (k : EventKind) (a : BitVec 16) : (s.notify k a).cl = s.cl := rfl
@[simp] theorem State.notify_me (k : EventKind) (a : BitVec 16) : (s.notify k a).me = s.me := rfl
@[simp] theorem State.notify_pending (k : EventKind) (a : BitVec 16) : (s.notify k a).pending = s.pending := rfl

@[simp] theorem State.raiseAlarm_resetAsserted (k : EventKind) (a : BitVec 16) : (s.raiseAlarm k a).resetAsserted = s.resetAsserted := rfl
@[simp] theorem State.raiseAlarm_cf (k : EventKind) (a : BitVec 16) : (s.raiseAlarm k a).cf = s.cf := rfl
@[simp] theorem State.raiseAlarm_lt (k : EventKind) (a : BitVec 16) : (s.raiseAlarm k a).lt = s.lt := rfl
@[simp] theorem State.raiseAlarm_tw (k : EventKind) (a : BitVec 16) : (s.raiseAlarm k a).tw = s.tw := rfl
@[simp] theorem State.raiseAlarm_fe (k : EventKind) (a : BitVec 16) : (s.raiseAlarm k a).fe = s.fe := rfl
@[simp] theorem State.raiseAlarm_bq (k : EventKind) (a : BitVec 16) : (s.raiseAlarm k a).bq = s.bq := rfl
@[simp] theorem State.raiseAlarm_pt (k : EventKind) (a : BitVec 16) : (s.raiseAlarm k a).pt = s.pt := rfl
@[simp] theorem State.raiseAlarm_eu (k : EventKind) (a : BitVec 16) : (s.raiseAlarm k a).eu = s.eu := rfl
@[simp] theorem State.raiseAlarm_bp (k : EventKind) (a : BitVec 16) : (s.raiseAlarm k a).bp = s.bp := rfl
@[simp] theorem State.raiseAlarm_cl (k : EventKind) (a : BitVec 16) : (s.raiseAlarm k a).cl = s.cl := rfl
@[simp] theorem State.raiseAlarm_me (k : EventKind) (a : BitVec 16) : (s.raiseAlarm k a).me = s.me := rfl
@[simp] theorem State.raiseAlarm_pending (k : EventKind) (a : BitVec 16) : (s.raiseAlarm k a).pending = s.pending := rfl

@[simp] theorem State.requestFlush_resetAsserted (ps : List Place) : (s.requestFlush ps).resetAsserted = s.resetAsserted := rfl
@[simp] theorem State.requestFlush_cf (ps : List Place) : (s.requestFlush ps).cf = s.cf := rfl
@[simp] theorem State.requestFlush_lt (ps : List Place) : (s.requestFlush ps).lt = s.lt := rfl
@[simp] theorem State.requestFlush_fe (ps : List Place) : (s.requestFlush ps).fe = s.fe := rfl
@[simp] theorem State.requestFlush_bq (ps : List Place) : (s.requestFlush ps).bq = s.bq := rfl
@[simp] theorem State.requestFlush_pt (ps : List Place) : (s.requestFlush ps).pt = s.pt := rfl
@[simp] theorem State.requestFlush_eu (ps : List Place) : (s.requestFlush ps).eu = s.eu := rfl
@[simp] theorem State.requestFlush_bp (ps : List Place) : (s.requestFlush ps).bp = s.bp := rfl
@[simp] theorem State.requestFlush_cl (ps : List Place) : (s.requestFlush ps).cl = s.cl := rfl
@[simp] theorem State.requestFlush_me (ps : List Place) : (s.requestFlush ps).me = s.me := rfl
@[simp] theorem State.requestFlush_ec (ps : List Place) : (s.requestFlush ps).ec = s.ec := rfl
@[simp] theorem State.requestFlush_pending (ps : List Place) : (s.requestFlush ps).pending = s.pending := rfl

@[simp] theorem State.putPeer_resetAsserted (n : Station) (p : Option Peer) : (s.putPeer n p).resetAsserted = s.resetAsserted := rfl
@[simp] theorem State.putPeer_cf (n : Station) (p : Option Peer) : (s.putPeer n p).cf = s.cf := rfl
@[simp] theorem State.putPeer_lt (n : Station) (p : Option Peer) : (s.putPeer n p).lt = s.lt := rfl
@[simp] theorem State.putPeer_tw (n : Station) (p : Option Peer) : (s.putPeer n p).tw = s.tw := rfl
@[simp] theorem State.putPeer_fe (n : Station) (p : Option Peer) : (s.putPeer n p).fe = s.fe := rfl
@[simp] theorem State.putPeer_bq (n : Station) (p : Option Peer) : (s.putPeer n p).bq = s.bq := rfl
@[simp] theorem State.putPeer_announceTimer (n : Station) (p : Option Peer) : (s.putPeer n p).pt.announceTimer = s.pt.announceTimer := rfl
@[simp] theorem State.putPeer_eu (n : Station) (p : Option Peer) : (s.putPeer n p).eu = s.eu := rfl
@[simp] theorem State.putPeer_bp (n : Station) (p : Option Peer) : (s.putPeer n p).bp = s.bp := rfl
@[simp] theorem State.putPeer_cl (n : Station) (p : Option Peer) : (s.putPeer n p).cl = s.cl := rfl
@[simp] theorem State.putPeer_me (n : Station) (p : Option Peer) : (s.putPeer n p).me = s.me := rfl
@[simp] theorem State.putPeer_ec (n : Station) (p : Option Peer) : (s.putPeer n p).ec = s.ec := rfl
@[simp] theorem State.putPeer_pending (n : Station) (p : Option Peer) : (s.putPeer n p).pending = s.pending := rfl

@[simp] theorem State.loadAnnounce_resetAsserted : (s.loadAnnounce).resetAsserted = s.resetAsserted := rfl
@[simp] theorem State.loadAnnounce_cf : (s.loadAnnounce).cf = s.cf := rfl
@[simp] theorem State.loadAnnounce_lt : (s.loadAnnounce).lt = s.lt := rfl
@[simp] theorem State.loadAnnounce_tw : (s.loadAnnounce).tw = s.tw := rfl
@[simp] theorem State.loadAnnounce_fe : (s.loadAnnounce).fe = s.fe := rfl
@[simp] theorem State.loadAnnounce_bq : (s.loadAnnounce).bq = s.bq := rfl
@[simp] theorem State.loadAnnounce_pt : (s.loadAnnounce).pt = s.pt := rfl
@[simp] theorem State.loadAnnounce_role : (s.loadAnnounce).eu.role = s.eu.role := rfl
@[simp] theorem State.loadAnnounce_listenTimer : (s.loadAnnounce).eu.listenTimer = s.eu.listenTimer := rfl
@[simp] theorem State.loadAnnounce_lastDesignated : (s.loadAnnounce).eu.lastDesignated = s.eu.lastDesignated := rfl
@[simp] theorem State.loadAnnounce_segmentDesignated : (s.loadAnnounce).eu.segmentDesignated = s.eu.segmentDesignated := rfl
@[simp] theorem State.loadAnnounce_takeoverHolder : (s.loadAnnounce).eu.takeoverHolder = s.eu.takeoverHolder := rfl
@[simp] theorem State.loadAnnounce_bp : (s.loadAnnounce).bp = s.bp := rfl
@[simp] theorem State.loadAnnounce_cl : (s.loadAnnounce).cl = s.cl := rfl
@[simp] theorem State.loadAnnounce_me : (s.loadAnnounce).me = s.me := rfl
@[simp] theorem State.loadAnnounce_ec : (s.loadAnnounce).ec = s.ec := rfl
@[simp] theorem State.loadAnnounce_pending : (s.loadAnnounce).pending = s.pending := rfl

@[simp] theorem State.statusRequest_resetAsserted : (s.statusRequest).resetAsserted = s.resetAsserted := rfl
@[simp] theorem State.statusRequest_cf : (s.statusRequest).cf = s.cf := rfl
@[simp] theorem State.statusRequest_lt : (s.statusRequest).lt = s.lt := rfl
@[simp] theorem State.statusRequest_tw : (s.statusRequest).tw = s.tw := rfl
@[simp] theorem State.statusRequest_fe : (s.statusRequest).fe = s.fe := rfl
@[simp] theorem State.statusRequest_bq : (s.statusRequest).bq = s.bq := rfl
@[simp] theorem State.statusRequest_pt : (s.statusRequest).pt = s.pt := rfl
@[simp] theorem State.statusRequest_eu : (s.statusRequest).eu = s.eu := rfl
@[simp] theorem State.statusRequest_bp : (s.statusRequest).bp = s.bp := rfl
@[simp] theorem State.statusRequest_link : (s.statusRequest).cl.link = s.cl.link := rfl
@[simp] theorem State.statusRequest_holdTimer : (s.statusRequest).cl.holdTimer = s.cl.holdTimer := rfl
@[simp] theorem State.statusRequest_idleTimer : (s.statusRequest).cl.idleTimer = s.cl.idleTimer := rfl
@[simp] theorem State.statusRequest_linkHold : (s.statusRequest).cl.linkHold = s.cl.linkHold := rfl
@[simp] theorem State.statusRequest_receiver : (s.statusRequest).cl.receiver = s.cl.receiver := rfl
@[simp] theorem State.statusRequest_grantTotal : (s.statusRequest).cl.grantTotal = s.cl.grantTotal := rfl
@[simp] theorem State.statusRequest_lastCredit : (s.statusRequest).cl.lastCredit = s.cl.lastCredit := rfl
@[simp] theorem State.statusRequest_expectedSeq : (s.statusRequest).cl.expectedSeq = s.cl.expectedSeq := rfl
@[simp] theorem State.statusRequest_acceptTotal : (s.statusRequest).cl.acceptTotal = s.cl.acceptTotal := rfl
@[simp] theorem State.statusRequest_deliveredTotal : (s.statusRequest).cl.deliveredTotal = s.cl.deliveredTotal := rfl
@[simp] theorem State.statusRequest_restartWindow : (s.statusRequest).cl.restartWindow = s.cl.restartWindow := rfl
@[simp] theorem State.statusRequest_responses : (s.statusRequest).cl.responses = s.cl.responses := rfl
@[simp] theorem State.statusRequest_tx : (s.statusRequest).cl.tx = s.cl.tx := rfl
@[simp] theorem State.statusRequest_me : (s.statusRequest).me = s.me := rfl
@[simp] theorem State.statusRequest_ec : (s.statusRequest).ec = s.ec := rfl
@[simp] theorem State.statusRequest_pending : (s.statusRequest).pending = s.pending := rfl

@[simp] theorem State.roleChanged_resetAsserted (l : Role) : (s.roleChanged l).resetAsserted = s.resetAsserted := rfl
@[simp] theorem State.roleChanged_cf (l : Role) : (s.roleChanged l).cf = s.cf := rfl
@[simp] theorem State.roleChanged_lt (l : Role) : (s.roleChanged l).lt = s.lt := rfl
@[simp] theorem State.roleChanged_tw (l : Role) : (s.roleChanged l).tw = s.tw := rfl
@[simp] theorem State.roleChanged_fe (l : Role) : (s.roleChanged l).fe = s.fe := rfl
@[simp] theorem State.roleChanged_bq (l : Role) : (s.roleChanged l).bq = s.bq := rfl
@[simp] theorem State.roleChanged_pt (l : Role) : (s.roleChanged l).pt = s.pt := rfl
@[simp] theorem State.roleChanged_eu (l : Role) : (s.roleChanged l).eu = s.eu := rfl
@[simp] theorem State.roleChanged_bp (l : Role) : (s.roleChanged l).bp = s.bp := rfl
@[simp] theorem State.roleChanged_cl (l : Role) : (s.roleChanged l).cl = s.cl := rfl
@[simp] theorem State.roleChanged_me (l : Role) : (s.roleChanged l).me = s.me := rfl
@[simp] theorem State.roleChanged_pending (l : Role) : (s.roleChanged l).pending = s.pending := rfl

@[simp] theorem State.dropReserve_resetAsserted (b : BufNo) : (s.dropReserve b).resetAsserted = s.resetAsserted := rfl
@[simp] theorem State.dropReserve_cf (b : BufNo) : (s.dropReserve b).cf = s.cf := rfl
@[simp] theorem State.dropReserve_lt (b : BufNo) : (s.dropReserve b).lt = s.lt := rfl
@[simp] theorem State.dropReserve_tw (b : BufNo) : (s.dropReserve b).tw = s.tw := rfl
@[simp] theorem State.dropReserve_fe (b : BufNo) : (s.dropReserve b).fe = s.fe := rfl
@[simp] theorem State.dropReserve_free (b : BufNo) : (s.dropReserve b).bq.free = s.bq.free := rfl
@[simp] theorem State.dropReserve_urgentQ (b : BufNo) : (s.dropReserve b).bq.urgentQ = s.bq.urgentQ := rfl
@[simp] theorem State.dropReserve_normalQ (b : BufNo) : (s.dropReserve b).bq.normalQ = s.bq.normalQ := rfl
@[simp] theorem State.dropReserve_txSlot (b : BufNo) : (s.dropReserve b).bq.txSlot = s.bq.txSlot := rfl
@[simp] theorem State.dropReserve_deliveryQ (b : BufNo) : (s.dropReserve b).bq.deliveryQ = s.bq.deliveryQ := rfl
@[simp] theorem State.dropReserve_deliverySlot (b : BufNo) : (s.dropReserve b).bq.deliverySlot = s.bq.deliverySlot := rfl
@[simp] theorem State.dropReserve_contents (b : BufNo) : (s.dropReserve b).bq.contents = s.bq.contents := rfl
@[simp] theorem State.dropReserve_pt (b : BufNo) : (s.dropReserve b).pt = s.pt := rfl
@[simp] theorem State.dropReserve_eu (b : BufNo) : (s.dropReserve b).eu = s.eu := rfl
@[simp] theorem State.dropReserve_bp (b : BufNo) : (s.dropReserve b).bp = s.bp := rfl
@[simp] theorem State.dropReserve_cl (b : BufNo) : (s.dropReserve b).cl = s.cl := rfl
@[simp] theorem State.dropReserve_me (b : BufNo) : (s.dropReserve b).me = s.me := rfl
@[simp] theorem State.dropReserve_ec (b : BufNo) : (s.dropReserve b).ec = s.ec := rfl
@[simp] theorem State.dropReserve_pending (b : BufNo) : (s.dropReserve b).pending = s.pending := rfl

@[simp] theorem State.setReserve_resetAsserted (b : BufNo) (r : ReserveState) : (s.setReserve b r).resetAsserted = s.resetAsserted := rfl
@[simp] theorem State.setReserve_cf (b : BufNo) (r : ReserveState) : (s.setReserve b r).cf = s.cf := rfl
@[simp] theorem State.setReserve_lt (b : BufNo) (r : ReserveState) : (s.setReserve b r).lt = s.lt := rfl
@[simp] theorem State.setReserve_tw (b : BufNo) (r : ReserveState) : (s.setReserve b r).tw = s.tw := rfl
@[simp] theorem State.setReserve_fe (b : BufNo) (r : ReserveState) : (s.setReserve b r).fe = s.fe := rfl
@[simp] theorem State.setReserve_free (b : BufNo) (r : ReserveState) : (s.setReserve b r).bq.free = s.bq.free := rfl
@[simp] theorem State.setReserve_urgentQ (b : BufNo) (r : ReserveState) : (s.setReserve b r).bq.urgentQ = s.bq.urgentQ := rfl
@[simp] theorem State.setReserve_normalQ (b : BufNo) (r : ReserveState) : (s.setReserve b r).bq.normalQ = s.bq.normalQ := rfl
@[simp] theorem State.setReserve_txSlot (b : BufNo) (r : ReserveState) : (s.setReserve b r).bq.txSlot = s.bq.txSlot := rfl
@[simp] theorem State.setReserve_deliveryQ (b : BufNo) (r : ReserveState) : (s.setReserve b r).bq.deliveryQ = s.bq.deliveryQ := rfl
@[simp] theorem State.setReserve_deliverySlot (b : BufNo) (r : ReserveState) : (s.setReserve b r).bq.deliverySlot = s.bq.deliverySlot := rfl
@[simp] theorem State.setReserve_contents (b : BufNo) (r : ReserveState) : (s.setReserve b r).bq.contents = s.bq.contents := rfl
@[simp] theorem State.setReserve_pt (b : BufNo) (r : ReserveState) : (s.setReserve b r).pt = s.pt := rfl
@[simp] theorem State.setReserve_eu (b : BufNo) (r : ReserveState) : (s.setReserve b r).eu = s.eu := rfl
@[simp] theorem State.setReserve_bp (b : BufNo) (r : ReserveState) : (s.setReserve b r).bp = s.bp := rfl
@[simp] theorem State.setReserve_cl (b : BufNo) (r : ReserveState) : (s.setReserve b r).cl = s.cl := rfl
@[simp] theorem State.setReserve_me (b : BufNo) (r : ReserveState) : (s.setReserve b r).me = s.me := rfl
@[simp] theorem State.setReserve_ec (b : BufNo) (r : ReserveState) : (s.setReserve b r).ec = s.ec := rfl
@[simp] theorem State.setReserve_pending (b : BufNo) (r : ReserveState) : (s.setReserve b r).pending = s.pending := rfl

@[simp] theorem State.writeBuffer_resetAsserted (b : BufNo) (p : List Byte) : (s.writeBuffer b p).resetAsserted = s.resetAsserted := rfl
@[simp] theorem State.writeBuffer_cf (b : BufNo) (p : List Byte) : (s.writeBuffer b p).cf = s.cf := rfl
@[simp] theorem State.writeBuffer_lt (b : BufNo) (p : List Byte) : (s.writeBuffer b p).lt = s.lt := rfl
@[simp] theorem State.writeBuffer_tw (b : BufNo) (p : List Byte) : (s.writeBuffer b p).tw = s.tw := rfl
@[simp] theorem State.writeBuffer_fe (b : BufNo) (p : List Byte) : (s.writeBuffer b p).fe = s.fe := rfl
@[simp] theorem State.writeBuffer_free (b : BufNo) (p : List Byte) : (s.writeBuffer b p).bq.free = s.bq.free := rfl
@[simp] theorem State.writeBuffer_reserve (b : BufNo) (p : List Byte) : (s.writeBuffer b p).bq.reserve = s.bq.reserve := rfl
@[simp] theorem State.writeBuffer_urgentQ (b : BufNo) (p : List Byte) : (s.writeBuffer b p).bq.urgentQ = s.bq.urgentQ := rfl
@[simp] theorem State.writeBuffer_normalQ (b : BufNo) (p : List Byte) : (s.writeBuffer b p).bq.normalQ = s.bq.normalQ := rfl
@[simp] theorem State.writeBuffer_txSlot (b : BufNo) (p : List Byte) : (s.writeBuffer b p).bq.txSlot = s.bq.txSlot := rfl
@[simp] theorem State.writeBuffer_deliveryQ (b : BufNo) (p : List Byte) : (s.writeBuffer b p).bq.deliveryQ = s.bq.deliveryQ := rfl
@[simp] theorem State.writeBuffer_deliverySlot (b : BufNo) (p : List Byte) : (s.writeBuffer b p).bq.deliverySlot = s.bq.deliverySlot := rfl
@[simp] theorem State.writeBuffer_pt (b : BufNo) (p : List Byte) : (s.writeBuffer b p).pt = s.pt := rfl
@[simp] theorem State.writeBuffer_eu (b : BufNo) (p : List Byte) : (s.writeBuffer b p).eu = s.eu := rfl
@[simp] theorem State.writeBuffer_bp (b : BufNo) (p : List Byte) : (s.writeBuffer b p).bp = s.bp := rfl
@[simp] theorem State.writeBuffer_cl (b : BufNo) (p : List Byte) : (s.writeBuffer b p).cl = s.cl := rfl
@[simp] theorem State.writeBuffer_me (b : BufNo) (p : List Byte) : (s.writeBuffer b p).me = s.me := rfl
@[simp] theorem State.writeBuffer_ec (b : BufNo) (p : List Byte) : (s.writeBuffer b p).ec = s.ec := rfl
@[simp] theorem State.writeBuffer_pending (b : BufNo) (p : List Byte) : (s.writeBuffer b p).pending = s.pending := rfl

@[simp] theorem State.cancelHolds_resetAsserted : (s.cancelHolds).resetAsserted = s.resetAsserted := rfl
@[simp] theorem State.cancelHolds_cf : (s.cancelHolds).cf = s.cf := rfl
@[simp] theorem State.cancelHolds_lt : (s.cancelHolds).lt = s.lt := rfl
@[simp] theorem State.cancelHolds_tw : (s.cancelHolds).tw = s.tw := rfl
@[simp] theorem State.cancelHolds_backplane : (s.cancelHolds).fe.backplane = s.fe.backplane := rfl
@[simp] theorem State.cancelHolds_bq : (s.cancelHolds).bq = s.bq := rfl
@[simp] theorem State.cancelHolds_pt : (s.cancelHolds).pt = s.pt := rfl
@[simp] theorem State.cancelHolds_eu : (s.cancelHolds).eu = s.eu := rfl
@[simp] theorem State.cancelHolds_bp : (s.cancelHolds).bp = s.bp := rfl
@[simp] theorem State.cancelHolds_cl : (s.cancelHolds).cl = s.cl := rfl
@[simp] theorem State.cancelHolds_me : (s.cancelHolds).me = s.me := rfl
@[simp] theorem State.cancelHolds_ec : (s.cancelHolds).ec = s.ec := rfl
@[simp] theorem State.cancelHolds_pending : (s.cancelHolds).pending = s.pending := rfl

@[simp] theorem State.overtakeFrames_resetAsserted : (s.overtakeFrames).resetAsserted = s.resetAsserted := rfl
@[simp] theorem State.overtakeFrames_cf : (s.overtakeFrames).cf = s.cf := rfl
@[simp] theorem State.overtakeFrames_lt : (s.overtakeFrames).lt = s.lt := rfl
@[simp] theorem State.overtakeFrames_tw : (s.overtakeFrames).tw = s.tw := rfl
@[simp] theorem State.overtakeFrames_card : (s.overtakeFrames).fe.card = s.fe.card := rfl
@[simp] theorem State.overtakeFrames_bq : (s.overtakeFrames).bq = s.bq := rfl
@[simp] theorem State.overtakeFrames_pt : (s.overtakeFrames).pt = s.pt := rfl
@[simp] theorem State.overtakeFrames_eu : (s.overtakeFrames).eu = s.eu := rfl
@[simp] theorem State.overtakeFrames_bp : (s.overtakeFrames).bp = s.bp := rfl
@[simp] theorem State.overtakeFrames_cl : (s.overtakeFrames).cl = s.cl := rfl
@[simp] theorem State.overtakeFrames_me : (s.overtakeFrames).me = s.me := rfl
@[simp] theorem State.overtakeFrames_ec : (s.overtakeFrames).ec = s.ec := rfl
@[simp] theorem State.overtakeFrames_pending : (s.overtakeFrames).pending = s.pending := rfl

@[simp] theorem State.topUp_resetAsserted : (s.topUp).resetAsserted = s.resetAsserted := rfl
@[simp] theorem State.topUp_cf : (s.topUp).cf = s.cf := rfl
@[simp] theorem State.topUp_lt : (s.topUp).lt = s.lt := rfl
@[simp] theorem State.topUp_tw : (s.topUp).tw = s.tw := rfl
@[simp] theorem State.topUp_fe : (s.topUp).fe = s.fe := rfl
@[simp] theorem State.topUp_urgentQ : (s.topUp).bq.urgentQ = s.bq.urgentQ := rfl
@[simp] theorem State.topUp_normalQ : (s.topUp).bq.normalQ = s.bq.normalQ := rfl
@[simp] theorem State.topUp_txSlot : (s.topUp).bq.txSlot = s.bq.txSlot := rfl
@[simp] theorem State.topUp_deliveryQ : (s.topUp).bq.deliveryQ = s.bq.deliveryQ := rfl
@[simp] theorem State.topUp_deliverySlot : (s.topUp).bq.deliverySlot = s.bq.deliverySlot := rfl
@[simp] theorem State.topUp_contents : (s.topUp).bq.contents = s.bq.contents := rfl
@[simp] theorem State.topUp_pt : (s.topUp).pt = s.pt := rfl
@[simp] theorem State.topUp_eu : (s.topUp).eu = s.eu := rfl
@[simp] theorem State.topUp_bp : (s.topUp).bp = s.bp := rfl
@[simp] theorem State.topUp_link : (s.topUp).cl.link = s.cl.link := rfl
@[simp] theorem State.topUp_holdTimer : (s.topUp).cl.holdTimer = s.cl.holdTimer := rfl
@[simp] theorem State.topUp_idleTimer : (s.topUp).cl.idleTimer = s.cl.idleTimer := rfl
@[simp] theorem State.topUp_linkHold : (s.topUp).cl.linkHold = s.cl.linkHold := rfl
@[simp] theorem State.topUp_receiver : (s.topUp).cl.receiver = s.cl.receiver := rfl
@[simp] theorem State.topUp_lastCredit : (s.topUp).cl.lastCredit = s.cl.lastCredit := rfl
@[simp] theorem State.topUp_expectedSeq : (s.topUp).cl.expectedSeq = s.cl.expectedSeq := rfl
@[simp] theorem State.topUp_acceptTotal : (s.topUp).cl.acceptTotal = s.cl.acceptTotal := rfl
@[simp] theorem State.topUp_deliveredTotal : (s.topUp).cl.deliveredTotal = s.cl.deliveredTotal := rfl
@[simp] theorem State.topUp_statusPending : (s.topUp).cl.statusPending = s.cl.statusPending := rfl
@[simp] theorem State.topUp_restartWindow : (s.topUp).cl.restartWindow = s.cl.restartWindow := rfl
@[simp] theorem State.topUp_responses : (s.topUp).cl.responses = s.cl.responses := rfl
@[simp] theorem State.topUp_tx : (s.topUp).cl.tx = s.cl.tx := rfl
@[simp] theorem State.topUp_me : (s.topUp).me = s.me := rfl
@[simp] theorem State.topUp_ec : (s.topUp).ec = s.ec := rfl
@[simp] theorem State.topUp_pending : (s.topUp).pending = s.pending := rfl

@[simp] theorem State.send_resetAsserted (m : OutMessage) : (s.send m).resetAsserted = s.resetAsserted := rfl
@[simp] theorem State.send_cf (m : OutMessage) : (s.send m).cf = s.cf := rfl
@[simp] theorem State.send_lt (m : OutMessage) : (s.send m).lt = s.lt := rfl
@[simp] theorem State.send_tw (m : OutMessage) : (s.send m).tw = s.tw := rfl
@[simp] theorem State.send_fe (m : OutMessage) : (s.send m).fe = s.fe := rfl
@[simp] theorem State.send_bq (m : OutMessage) : (s.send m).bq = s.bq := rfl
@[simp] theorem State.send_pt (m : OutMessage) : (s.send m).pt = s.pt := rfl
@[simp] theorem State.send_eu (m : OutMessage) : (s.send m).eu = s.eu := rfl
@[simp] theorem State.send_bp (m : OutMessage) : (s.send m).bp = s.bp := rfl
@[simp] theorem State.send_link (m : OutMessage) : (s.send m).cl.link = s.cl.link := rfl
@[simp] theorem State.send_holdTimer (m : OutMessage) : (s.send m).cl.holdTimer = s.cl.holdTimer := rfl
@[simp] theorem State.send_idleTimer (m : OutMessage) : (s.send m).cl.idleTimer = s.cl.idleTimer := rfl
@[simp] theorem State.send_linkHold (m : OutMessage) : (s.send m).cl.linkHold = s.cl.linkHold := rfl
@[simp] theorem State.send_receiver (m : OutMessage) : (s.send m).cl.receiver = s.cl.receiver := rfl
@[simp] theorem State.send_grantTotal (m : OutMessage) : (s.send m).cl.grantTotal = s.cl.grantTotal := rfl
@[simp] theorem State.send_lastCredit (m : OutMessage) : (s.send m).cl.lastCredit = s.cl.lastCredit := rfl
@[simp] theorem State.send_expectedSeq (m : OutMessage) : (s.send m).cl.expectedSeq = s.cl.expectedSeq := rfl
@[simp] theorem State.send_acceptTotal (m : OutMessage) : (s.send m).cl.acceptTotal = s.cl.acceptTotal := rfl
@[simp] theorem State.send_deliveredTotal (m : OutMessage) : (s.send m).cl.deliveredTotal = s.cl.deliveredTotal := rfl
@[simp] theorem State.send_statusPending (m : OutMessage) : (s.send m).cl.statusPending = s.cl.statusPending := rfl
@[simp] theorem State.send_restartWindow (m : OutMessage) : (s.send m).cl.restartWindow = s.cl.restartWindow := rfl
@[simp] theorem State.send_responses (m : OutMessage) : (s.send m).cl.responses = s.cl.responses := rfl
@[simp] theorem State.send_me (m : OutMessage) : (s.send m).me = s.me := rfl
@[simp] theorem State.send_ec (m : OutMessage) : (s.send m).ec = s.ec := rfl
@[simp] theorem State.send_pending (m : OutMessage) : (s.send m).pending = s.pending := rfl

@[simp] theorem State.messageSent_resetAsserted : (s.messageSent).resetAsserted = s.resetAsserted := rfl
@[simp] theorem State.messageSent_cf : (s.messageSent).cf = s.cf := rfl
@[simp] theorem State.messageSent_lt : (s.messageSent).lt = s.lt := rfl
@[simp] theorem State.messageSent_tw : (s.messageSent).tw = s.tw := rfl
@[simp] theorem State.messageSent_fe : (s.messageSent).fe = s.fe := rfl
@[simp] theorem State.messageSent_bq : (s.messageSent).bq = s.bq := rfl
@[simp] theorem State.messageSent_pt : (s.messageSent).pt = s.pt := rfl
@[simp] theorem State.messageSent_eu : (s.messageSent).eu = s.eu := rfl
@[simp] theorem State.messageSent_bp : (s.messageSent).bp = s.bp := rfl
@[simp] theorem State.messageSent_link : (s.messageSent).cl.link = s.cl.link := rfl
@[simp] theorem State.messageSent_holdTimer : (s.messageSent).cl.holdTimer = s.cl.holdTimer := rfl
@[simp] theorem State.messageSent_linkHold : (s.messageSent).cl.linkHold = s.cl.linkHold := rfl
@[simp] theorem State.messageSent_receiver : (s.messageSent).cl.receiver = s.cl.receiver := rfl
@[simp] theorem State.messageSent_grantTotal : (s.messageSent).cl.grantTotal = s.cl.grantTotal := rfl
@[simp] theorem State.messageSent_lastCredit : (s.messageSent).cl.lastCredit = s.cl.lastCredit := rfl
@[simp] theorem State.messageSent_expectedSeq : (s.messageSent).cl.expectedSeq = s.cl.expectedSeq := rfl
@[simp] theorem State.messageSent_acceptTotal : (s.messageSent).cl.acceptTotal = s.cl.acceptTotal := rfl
@[simp] theorem State.messageSent_deliveredTotal : (s.messageSent).cl.deliveredTotal = s.cl.deliveredTotal := rfl
@[simp] theorem State.messageSent_statusPending : (s.messageSent).cl.statusPending = s.cl.statusPending := rfl
@[simp] theorem State.messageSent_restartWindow : (s.messageSent).cl.restartWindow = s.cl.restartWindow := rfl
@[simp] theorem State.messageSent_responses : (s.messageSent).cl.responses = s.cl.responses := rfl
@[simp] theorem State.messageSent_me : (s.messageSent).me = s.me := rfl
@[simp] theorem State.messageSent_ec : (s.messageSent).ec = s.ec := rfl
@[simp] theorem State.messageSent_pending : (s.messageSent).pending = s.pending := rfl

@[simp] theorem State.finishRequest_resetAsserted : (s.finishRequest).resetAsserted = s.resetAsserted := rfl
@[simp] theorem State.finishRequest_cf : (s.finishRequest).cf = s.cf := rfl
@[simp] theorem State.finishRequest_lt : (s.finishRequest).lt = s.lt := rfl
@[simp] theorem State.finishRequest_tw : (s.finishRequest).tw = s.tw := rfl
@[simp] theorem State.finishRequest_fe : (s.finishRequest).fe = s.fe := rfl
@[simp] theorem State.finishRequest_bq : (s.finishRequest).bq = s.bq := rfl
@[simp] theorem State.finishRequest_pt : (s.finishRequest).pt = s.pt := rfl
@[simp] theorem State.finishRequest_eu : (s.finishRequest).eu = s.eu := rfl
@[simp] theorem State.finishRequest_bp : (s.finishRequest).bp = s.bp := rfl
@[simp] theorem State.finishRequest_cl : (s.finishRequest).cl = s.cl := rfl
@[simp] theorem State.finishRequest_ec : (s.finishRequest).ec = s.ec := rfl
@[simp] theorem State.finishRequest_pending : (s.finishRequest).pending = s.pending := rfl

/-! ## What the update writes -/

@[simp] theorem State.count_ec (c : Counter) : (s.count c).ec = s.ec.count c := rfl
@[simp] theorem State.countN_ec (c : Counter) (n : Nat) : (s.countN c n).ec = s.ec.countN c n := rfl
@[simp] theorem State.notify_ec (k : EventKind) (a : BitVec 16) : (s.notify k a).ec = s.ec.notify k a := rfl
@[simp] theorem State.raiseAlarm_ec (k : EventKind) (a : BitVec 16) : (s.raiseAlarm k a).ec = s.ec.raiseAlarm k a := rfl
@[simp] theorem State.requestFlush_tw (ps : List Place) : (s.requestFlush ps).tw = s.tw.requestFlush ps := rfl
@[simp] theorem State.putPeer_peers (n : Station) (p : Option Peer) : (s.putPeer n p).pt.peers = s.pt.peers.set n p := rfl
@[simp] theorem State.loadAnnounce_announceHolder : s.loadAnnounce.eu.announceHolder = some s.ownAnnounce := rfl
@[simp] theorem State.statusRequest_statusPending :
    s.statusRequest.cl.statusPending = some (s.cl.statusPending.getD false) := rfl
@[simp] theorem State.roleChanged_ec (l : Role) :
    (s.roleChanged l).ec = s.ec.notify .roleChange (word16 l.code s.eu.role.code) := rfl
@[simp] theorem State.writeBuffer_contents (b : BufNo) (p : List Byte) :
    (s.writeBuffer b p).bq.contents = s.bq.contents.set b p := rfl
@[simp] theorem State.finishRequest_me : s.finishRequest.me = s.me.finish s.cf.opState := rfl
@[simp] theorem State.overtakeFrames_backplane :
    s.overtakeFrames.fe.backplane = s.fe.backplane.map fun d => { d with overtaken := true } := rfl
@[simp] theorem State.messageSent_tx : s.messageSent.cl.tx = none := rfl
@[simp] theorem State.send_tx (m : OutMessage) : (s.send m).cl.tx = some m := rfl

end Sys2Proof.Machine
end

