-- ==== Sys2Proof/Laws/Ops.lean ====
section
/-! SUPPORT. What the updates that decide leave as it was, field by field, and the shared operations of an event: its outcome, the
release of buffers, the learn claim, the arbiter. -/

namespace Sys2Proof.Machine

variable (s : State)

@[simp] theorem State.storeBody_resetAsserted (m : DataOutMode) (p : List Byte) : (s.storeBody m p).resetAsserted = s.resetAsserted := by
  cases m <;> rfl
@[simp] theorem State.storeBody_cf (m : DataOutMode) (p : List Byte) : (s.storeBody m p).cf = s.cf := by
  cases m <;> rfl
@[simp] theorem State.storeBody_lt (m : DataOutMode) (p : List Byte) : (s.storeBody m p).lt = s.lt := by
  cases m <;> rfl
@[simp] theorem State.storeBody_tw (m : DataOutMode) (p : List Byte) : (s.storeBody m p).tw = s.tw := by
  cases m <;> rfl
@[simp] theorem State.storeBody_fe (m : DataOutMode) (p : List Byte) : (s.storeBody m p).fe = s.fe := by
  cases m <;> rfl
@[simp] theorem State.storeBody_free (m : DataOutMode) (p : List Byte) : (s.storeBody m p).bq.free = s.bq.free := by
  cases m <;> rfl
@[simp] theorem State.storeBody_reserve (m : DataOutMode) (p : List Byte) : (s.storeBody m p).bq.reserve = s.bq.reserve := by
  cases m <;> rfl
@[simp] theorem State.storeBody_urgentQ (m : DataOutMode) (p : List Byte) : (s.storeBody m p).bq.urgentQ = s.bq.urgentQ := by
  cases m <;> rfl
@[simp] theorem State.storeBody_normalQ (m : DataOutMode) (p : List Byte) : (s.storeBody m p).bq.normalQ = s.bq.normalQ := by
  cases m <;> rfl
@[simp] theorem State.storeBody_txSlot (m : DataOutMode) (p : List Byte) : (s.storeBody m p).bq.txSlot = s.bq.txSlot := by
  cases m <;> rfl
@[simp] theorem State.storeBody_deliveryQ (m : DataOutMode) (p : List Byte) : (s.storeBody m p).bq.deliveryQ = s.bq.deliveryQ := by
  cases m <;> rfl
@[simp] theorem State.storeBody_deliverySlot (m : DataOutMode) (p : List Byte) : (s.storeBody m p).bq.deliverySlot = s.bq.deliverySlot := by
  cases m <;> rfl
@[simp] theorem State.storeBody_pt (m : DataOutMode) (p : List Byte) : (s.storeBody m p).pt = s.pt := by
  cases m <;> rfl
@[simp] theorem State.storeBody_eu (m : DataOutMode) (p : List Byte) : (s.storeBody m p).eu = s.eu := by
  cases m <;> rfl
@[simp] theorem State.storeBody_bp (m : DataOutMode) (p : List Byte) : (s.storeBody m p).bp = s.bp := by
  cases m <;> rfl
@[simp] theorem State.storeBody_cl (m : DataOutMode) (p : List Byte) : (s.storeBody m p).cl = s.cl := by
  cases m <;> rfl
@[simp] theorem State.storeBody_me (m : DataOutMode) (p : List Byte) : (s.storeBody m p).me = s.me := by
  cases m <;> rfl
@[simp] theorem State.storeBody_ec (m : DataOutMode) (p : List Byte) : (s.storeBody m p).ec = s.ec := by
  cases m <;> rfl
@[simp] theorem State.storeBody_pending (m : DataOutMode) (p : List Byte) : (s.storeBody m p).pending = s.pending := by
  cases m <;> rfl

@[simp] theorem State.pushRule_resetAsserted (b : BufNo) : (s.pushRule b).resetAsserted = s.resetAsserted := by
  unfold State.pushRule; split <;> rfl
@[simp] theorem State.pushRule_cf (b : BufNo) : (s.pushRule b).cf = s.cf := by
  unfold State.pushRule; split <;> rfl
@[simp] theorem State.pushRule_lt (b : BufNo) : (s.pushRule b).lt = s.lt := by
  unfold State.pushRule; split <;> rfl
@[simp] theorem State.pushRule_tw (b : BufNo) : (s.pushRule b).tw = s.tw := by
  unfold State.pushRule; split <;> rfl
@[simp] theorem State.pushRule_fe (b : BufNo) : (s.pushRule b).fe = s.fe := by
  unfold State.pushRule; split <;> rfl
@[simp] theorem State.pushRule_urgentQ (b : BufNo) : (s.pushRule b).bq.urgentQ = s.bq.urgentQ := by
  unfold State.pushRule; split <;> rfl
@[simp] theorem State.pushRule_normalQ (b : BufNo) : (s.pushRule b).bq.normalQ = s.bq.normalQ := by
  unfold State.pushRule; split <;> rfl
@[simp] theorem State.pushRule_txSlot (b : BufNo) : (s.pushRule b).bq.txSlot = s.bq.txSlot := by
  unfold State.pushRule; split <;> rfl
@[simp] theorem State.pushRule_deliveryQ (b : BufNo) : (s.pushRule b).bq.deliveryQ = s.bq.deliveryQ := by
  unfold State.pushRule; split <;> rfl
@[simp] theorem State.pushRule_deliverySlot (b : BufNo) : (s.pushRule b).bq.deliverySlot = s.bq.deliverySlot := by
  unfold State.pushRule; split <;> rfl
@[simp] theorem State.pushRule_contents (b : BufNo) : (s.pushRule b).bq.contents = s.bq.contents := by
  unfold State.pushRule; split <;> rfl
@[simp] theorem State.pushRule_pt (b : BufNo) : (s.pushRule b).pt = s.pt := by
  unfold State.pushRule; split <;> rfl
@[simp] theorem State.pushRule_eu (b : BufNo) : (s.pushRule b).eu = s.eu := by
  unfold State.pushRule; split <;> rfl
@[simp] theorem State.pushRule_bp (b : BufNo) : (s.pushRule b).bp = s.bp := by
  unfold State.pushRule; split <;> rfl
@[simp] theorem State.pushRule_link (b : BufNo) : (s.pushRule b).cl.link = s.cl.link := by
  unfold State.pushRule; split <;> rfl
@[simp] theorem State.pushRule_holdTimer (b : BufNo) : (s.pushRule b).cl.holdTimer = s.cl.holdTimer := by
  unfold State.pushRule; split <;> rfl
@[simp] theorem State.pushRule_idleTimer (b : BufNo) : (s.pushRule b).cl.idleTimer = s.cl.idleTimer := by
  unfold State.pushRule; split <;> rfl
@[simp] theorem State.pushRule_linkHold (b : BufNo) : (s.pushRule b).cl.linkHold = s.cl.linkHold := by
  unfold State.pushRule; split <;> rfl
@[simp] theorem State.pushRule_receiver (b : BufNo) : (s.pushRule b).cl.receiver = s.cl.receiver := by
  unfold State.pushRule; split <;> rfl
@[simp] theorem State.pushRule_lastCredit (b : BufNo) : (s.pushRule b).cl.lastCredit = s.cl.lastCredit := by
  unfold State.pushRule; split <;> rfl
@[simp] theorem State.pushRule_expectedSeq (b : BufNo) : (s.pushRule b).cl.expectedSeq = s.cl.expectedSeq := by
  unfold State.pushRule; split <;> rfl
@[simp] theorem State.pushRule_acceptTotal (b : BufNo) : (s.pushRule b).cl.acceptTotal = s.cl.acceptTotal := by
  unfold State.pushRule; split <;> rfl
@[simp] theorem State.pushRule_deliveredTotal (b : BufNo) : (s.pushRule b).cl.deliveredTotal = s.cl.deliveredTotal := by
  unfold State.pushRule; split <;> rfl
@[simp] theorem State.pushRule_statusPending (b : BufNo) : (s.pushRule b).cl.statusPending = s.cl.statusPending := by
  unfold State.pushRule; split <;> rfl
@[simp] theorem State.pushRule_restartWindow (b : BufNo) : (s.pushRule b).cl.restartWindow = s.cl.restartWindow := by
  unfold State.pushRule; split <;> rfl
@[simp] theorem State.pushRule_responses (b : BufNo) : (s.pushRule b).cl.responses = s.cl.responses := by
  unfold State.pushRule; split <;> rfl
@[simp] theorem State.pushRule_tx (b : BufNo) : (s.pushRule b).cl.tx = s.cl.tx := by
  unfold State.pushRule; split <;> rfl
@[simp] theorem State.pushRule_me (b : BufNo) : (s.pushRule b).me = s.me := by
  unfold State.pushRule; split <;> rfl
@[simp] theorem State.pushRule_ec (b : BufNo) : (s.pushRule b).ec = s.ec := by
  unfold State.pushRule; split <;> rfl
@[simp] theorem State.pushRule_pending (b : BufNo) : (s.pushRule b).pending = s.pending := by
  unfold State.pushRule; split <;> rfl

@[simp] theorem State.releaseReserve_resetAsserted (b : BufNo) : (s.releaseReserve b).resetAsserted = s.resetAsserted := by
  unfold State.releaseReserve; split <;> simp
@[simp] theorem State.releaseReserve_cf (b : BufNo) : (s.releaseReserve b).cf = s.cf := by
  unfold State.releaseReserve; split <;> simp
@[simp] theorem State.releaseReserve_lt (b : BufNo) : (s.releaseReserve b).lt = s.lt := by
  unfold State.releaseReserve; split <;> simp
@[simp] theorem State.releaseReserve_tw (b : BufNo) : (s.releaseReserve b).tw = s.tw := by
  unfold State.releaseReserve; split <;> simp
@[simp] theorem State.releaseReserve_fe (b : BufNo) : (s.releaseReserve b).fe = s.fe := by
  unfold State.releaseReserve; split <;> simp
@[simp] theorem State.releaseReserve_urgentQ (b : BufNo) : (s.releaseReserve b).bq.urgentQ = s.bq.urgentQ := by
  unfold State.releaseReserve; split <;> simp
@[simp] theorem State.releaseReserve_normalQ (b : BufNo) : (s.releaseReserve b).bq.normalQ = s.bq.normalQ := by
  unfold State.releaseReserve; split <;> simp
@[simp] theorem State.releaseReserve_txSlot (b : BufNo) : (s.releaseReserve b).bq.txSlot = s.bq.txSlot := by
  unfold State.releaseReserve; split <;> simp
@[simp] theorem State.releaseReserve_deliveryQ (b : BufNo) : (s.releaseReserve b).bq.deliveryQ = s.bq.deliveryQ := by
  unfold State.releaseReserve; split <;> simp
@[simp] theorem State.releaseReserve_deliverySlot (b : BufNo) : (s.releaseReserve b).bq.deliverySlot = s.bq.deliverySlot := by
  unfold State.releaseReserve; split <;> simp
@[simp] theorem State.releaseReserve_contents (b : BufNo) : (s.releaseReserve b).bq.contents = s.bq.contents := by
  unfold State.releaseReserve; split <;> simp
@[simp] theorem State.releaseReserve_pt (b : BufNo) : (s.releaseReserve b).pt = s.pt := by
  unfold State.releaseReserve; split <;> simp
@[simp] theorem State.releaseReserve_eu (b : BufNo) : (s.releaseReserve b).eu = s.eu := by
  unfold State.releaseReserve; split <;> simp
@[simp] theorem State.releaseReserve_bp (b : BufNo) : (s.releaseReserve b).bp = s.bp := by
  unfold State.releaseReserve; split <;> simp
@[simp] theorem State.releaseReserve_link (b : BufNo) : (s.releaseReserve b).cl.link = s.cl.link := by
  unfold State.releaseReserve; split <;> simp
@[simp] theorem State.releaseReserve_holdTimer (b : BufNo) : (s.releaseReserve b).cl.holdTimer = s.cl.holdTimer := by
  unfold State.releaseReserve; split <;> simp
@[simp] theorem State.releaseReserve_idleTimer (b : BufNo) : (s.releaseReserve b).cl.idleTimer = s.cl.idleTimer := by
  unfold State.releaseReserve; split <;> simp
@[simp] theorem State.releaseReserve_linkHold (b : BufNo) : (s.releaseReserve b).cl.linkHold = s.cl.linkHold := by
  unfold State.releaseReserve; split <;> simp
@[simp] theorem State.releaseReserve_receiver (b : BufNo) : (s.releaseReserve b).cl.receiver = s.cl.receiver := by
  unfold State.releaseReserve; split <;> simp
@[simp] theorem State.releaseReserve_lastCredit (b : BufNo) : (s.releaseReserve b).cl.lastCredit = s.cl.lastCredit := by
  unfold State.releaseReserve; split <;> simp
@[simp] theorem State.releaseReserve_expectedSeq (b : BufNo) : (s.releaseReserve b).cl.expectedSeq = s.cl.expectedSeq := by
  unfold State.releaseReserve; split <;> simp
@[simp] theorem State.releaseReserve_acceptTotal (b : BufNo) : (s.releaseReserve b).cl.acceptTotal = s.cl.acceptTotal := by
  unfold State.releaseReserve; split <;> simp
@[simp] theorem State.releaseReserve_deliveredTotal (b : BufNo) : (s.releaseReserve b).cl.deliveredTotal = s.cl.deliveredTotal := by
  unfold State.releaseReserve; split <;> simp
@[simp] theorem State.releaseReserve_statusPending (b : BufNo) : (s.releaseReserve b).cl.statusPending = s.cl.statusPending := by
  unfold State.releaseReserve; split <;> simp
@[simp] theorem State.releaseReserve_restartWindow (b : BufNo) : (s.releaseReserve b).cl.restartWindow = s.cl.restartWindow := by
  unfold State.releaseReserve; split <;> simp
@[simp] theorem State.releaseReserve_responses (b : BufNo) : (s.releaseReserve b).cl.responses = s.cl.responses := by
  unfold State.releaseReserve; split <;> simp
@[simp] theorem State.releaseReserve_tx (b : BufNo) : (s.releaseReserve b).cl.tx = s.cl.tx := by
  unfold State.releaseReserve; split <;> simp
@[simp] theorem State.releaseReserve_me (b : BufNo) : (s.releaseReserve b).me = s.me := by
  unfold State.releaseReserve; split <;> simp
@[simp] theorem State.releaseReserve_ec (b : BufNo) : (s.releaseReserve b).ec = s.ec := by
  unfold State.releaseReserve; split <;> simp
@[simp] theorem State.releaseReserve_pending (b : BufNo) : (s.releaseReserve b).pending = s.pending := by
  unfold State.releaseReserve; split <;> simp

@[simp] theorem State.refreshDesignated_resetAsserted : (s.refreshDesignated).resetAsserted = s.resetAsserted := by
  unfold State.refreshDesignated; split <;> rfl
@[simp] theorem State.refreshDesignated_cf : (s.refreshDesignated).cf = s.cf := by
  unfold State.refreshDesignated; split <;> rfl
@[simp] theorem State.refreshDesignated_lt : (s.refreshDesignated).lt = s.lt := by
  unfold State.refreshDesignated; split <;> rfl
@[simp] theorem State.refreshDesignated_tw : (s.refreshDesignated).tw = s.tw := by
  unfold State.refreshDesignated; split <;> rfl
@[simp] theorem State.refreshDesignated_fe : (s.refreshDesignated).fe = s.fe := by
  unfold State.refreshDesignated; split <;> rfl
@[simp] theorem State.refreshDesignated_bq : (s.refreshDesignated).bq = s.bq := by
  unfold State.refreshDesignated; split <;> rfl
@[simp] theorem State.refreshDesignated_pt : (s.refreshDesignated).pt = s.pt := by
  unfold State.refreshDesignated; split <;> rfl
@[simp] theorem State.refreshDesignated_role : (s.refreshDesignated).eu.role = s.eu.role := by
  unfold State.refreshDesignated; split <;> rfl
@[simp] theorem State.refreshDesignated_listenTimer : (s.refreshDesignated).eu.listenTimer = s.eu.listenTimer := by
  unfold State.refreshDesignated; split <;> rfl
@[simp] theorem State.refreshDesignated_lastDesignated : (s.refreshDesignated).eu.lastDesignated = s.eu.lastDesignated := by
  unfold State.refreshDesignated; split <;> rfl
@[simp] theorem State.refreshDesignated_announceHolder : (s.refreshDesignated).eu.announceHolder = s.eu.announceHolder := by
  unfold State.refreshDesignated; split <;> rfl
@[simp] theorem State.refreshDesignated_takeoverHolder : (s.refreshDesignated).eu.takeoverHolder = s.eu.takeoverHolder := by
  unfold State.refreshDesignated; split <;> rfl
@[simp] theorem State.refreshDesignated_bp : (s.refreshDesignated).bp = s.bp := by
  unfold State.refreshDesignated; split <;> rfl
@[simp] theorem State.refreshDesignated_link : (s.refreshDesignated).cl.link = s.cl.link := by
  unfold State.refreshDesignated; split <;> rfl
@[simp] theorem State.refreshDesignated_holdTimer : (s.refreshDesignated).cl.holdTimer = s.cl.holdTimer := by
  unfold State.refreshDesignated; split <;> rfl
@[simp] theorem State.refreshDesignated_idleTimer : (s.refreshDesignated).cl.idleTimer = s.cl.idleTimer := by
  unfold State.refreshDesignated; split <;> rfl
@[simp] theorem State.refreshDesignated_linkHold : (s.refreshDesignated).cl.linkHold = s.cl.linkHold := by
  unfold State.refreshDesignated; split <;> rfl
@[simp] theorem State.refreshDesignated_receiver : (s.refreshDesignated).cl.receiver = s.cl.receiver := by
  unfold State.refreshDesignated; split <;> rfl
@[simp] theorem State.refreshDesignated_grantTotal : (s.refreshDesignated).cl.grantTotal = s.cl.grantTotal := by
  unfold State.refreshDesignated; split <;> rfl
@[simp] theorem State.refreshDesignated_lastCredit : (s.refreshDesignated).cl.lastCredit = s.cl.lastCredit := by
  unfold State.refreshDesignated; split <;> rfl
@[simp] theorem State.refreshDesignated_expectedSeq : (s.refreshDesignated).cl.expectedSeq = s.cl.expectedSeq := by
  unfold State.refreshDesignated; split <;> rfl
@[simp] theorem State.refreshDesignated_acceptTotal : (s.refreshDesignated).cl.acceptTotal = s.cl.acceptTotal := by
  unfold State.refreshDesignated; split <;> rfl
@[simp] theorem State.refreshDesignated_deliveredTotal : (s.refreshDesignated).cl.deliveredTotal = s.cl.deliveredTotal := by
  unfold State.refreshDesignated; split <;> rfl
@[simp] theorem State.refreshDesignated_restartWindow : (s.refreshDesignated).cl.restartWindow = s.cl.restartWindow := by
  unfold State.refreshDesignated; split <;> rfl
@[simp] theorem State.refreshDesignated_responses : (s.refreshDesignated).cl.responses = s.cl.responses := by
  unfold State.refreshDesignated; split <;> rfl
@[simp] theorem State.refreshDesignated_tx : (s.refreshDesignated).cl.tx = s.cl.tx := by
  unfold State.refreshDesignated; split <;> rfl
@[simp] theorem State.refreshDesignated_me : (s.refreshDesignated).me = s.me := by
  unfold State.refreshDesignated; split <;> rfl
@[simp] theorem State.refreshDesignated_ec : (s.refreshDesignated).ec = s.ec := by
  unfold State.refreshDesignated; split <;> rfl
@[simp] theorem State.refreshDesignated_pending : (s.refreshDesignated).pending = s.pending := by
  unfold State.refreshDesignated; split <;> rfl

@[simp] theorem State.announceRole_resetAsserted (l : Role) : (s.announceRole l).resetAsserted = s.resetAsserted := by
  simp [State.announceRole]
@[simp] theorem State.announceRole_cf (l : Role) : (s.announceRole l).cf = s.cf := by
  simp [State.announceRole]
@[simp] theorem State.announceRole_lt (l : Role) : (s.announceRole l).lt = s.lt := by
  simp [State.announceRole]
@[simp] theorem State.announceRole_tw (l : Role) : (s.announceRole l).tw = s.tw := by
  simp [State.announceRole]
@[simp] theorem State.announceRole_fe (l : Role) : (s.announceRole l).fe = s.fe := by
  simp [State.announceRole]
@[simp] theorem State.announceRole_bq (l : Role) : (s.announceRole l).bq = s.bq := by
  simp [State.announceRole]
@[simp] theorem State.announceRole_pt (l : Role) : (s.announceRole l).pt = s.pt := by
  simp [State.announceRole]
@[simp] theorem State.announceRole_role (l : Role) : (s.announceRole l).eu.role = s.eu.role := by
  simp [State.announceRole]
@[simp] theorem State.announceRole_listenTimer (l : Role) : (s.announceRole l).eu.listenTimer = s.eu.listenTimer := by
  simp [State.announceRole]
@[simp] theorem State.announceRole_lastDesignated (l : Role) : (s.announceRole l).eu.lastDesignated = s.eu.lastDesignated := by
  simp [State.announceRole]
@[simp] theorem State.announceRole_announceHolder (l : Role) : (s.announceRole l).eu.announceHolder = s.eu.announceHolder := by
  simp [State.announceRole]
@[simp] theorem State.announceRole_takeoverHolder (l : Role) : (s.announceRole l).eu.takeoverHolder = s.eu.takeoverHolder := by
  simp [State.announceRole]
@[simp] theorem State.announceRole_bp (l : Role) : (s.announceRole l).bp = s.bp := by
  simp [State.announceRole]
@[simp] theorem State.announceRole_link (l : Role) : (s.announceRole l).cl.link = s.cl.link := by
  simp [State.announceRole]
@[simp] theorem State.announceRole_holdTimer (l : Role) : (s.announceRole l).cl.holdTimer = s.cl.holdTimer := by
  simp [State.announceRole]
@[simp] theorem State.announceRole_idleTimer (l : Role) : (s.announceRole l).cl.idleTimer = s.cl.idleTimer := by
  simp [State.announceRole]
@[simp] theorem State.announceRole_linkHold (l : Role) : (s.announceRole l).cl.linkHold = s.cl.linkHold := by
  simp [State.announceRole]
@[simp] theorem State.announceRole_receiver (l : Role) : (s.announceRole l).cl.receiver = s.cl.receiver := by
  simp [State.announceRole]
@[simp] theorem State.announceRole_grantTotal (l : Role) : (s.announceRole l).cl.grantTotal = s.cl.grantTotal := by
  simp [State.announceRole]
@[simp] theorem State.announceRole_lastCredit (l : Role) : (s.announceRole l).cl.lastCredit = s.cl.lastCredit := by
  simp [State.announceRole]
@[simp] theorem State.announceRole_expectedSeq (l : Role) : (s.announceRole l).cl.expectedSeq = s.cl.expectedSeq := by
  simp [State.announceRole]
@[simp] theorem State.announceRole_acceptTotal (l : Role) : (s.announceRole l).cl.acceptTotal = s.cl.acceptTotal := by
  simp [State.announceRole]
@[simp] theorem State.announceRole_deliveredTotal (l : Role) : (s.announceRole l).cl.deliveredTotal = s.cl.deliveredTotal := by
  simp [State.announceRole]
@[simp] theorem State.announceRole_restartWindow (l : Role) : (s.announceRole l).cl.restartWindow = s.cl.restartWindow := by
  simp [State.announceRole]
@[simp] theorem State.announceRole_responses (l : Role) : (s.announceRole l).cl.responses = s.cl.responses := by
  simp [State.announceRole]
@[simp] theorem State.announceRole_tx (l : Role) : (s.announceRole l).cl.tx = s.cl.tx := by
  simp [State.announceRole]
@[simp] theorem State.announceRole_me (l : Role) : (s.announceRole l).me = s.me := by
  simp [State.announceRole]
@[simp] theorem State.announceRole_pending (l : Role) : (s.announceRole l).pending = s.pending := by
  simp [State.announceRole]

@[simp] theorem State.enterListening_resetAsserted : (s.enterListening).resetAsserted = s.resetAsserted := by
  simp [State.enterListening]
@[simp] theorem State.enterListening_cf : (s.enterListening).cf = s.cf := by
  simp [State.enterListening]
@[simp] theorem State.enterListening_lt : (s.enterListening).lt = s.lt := by
  simp [State.enterListening]
@[simp] theorem State.enterListening_tw : (s.enterListening).tw = s.tw := by
  simp [State.enterListening]
@[simp] theorem State.enterListening_fe : (s.enterListening).fe = s.fe := by
  simp [State.enterListening]
@[simp] theorem State.enterListening_urgentQ : (s.enterListening).bq.urgentQ = s.bq.urgentQ := by
  simp [State.enterListening]
@[simp] theorem State.enterListening_normalQ : (s.enterListening).bq.normalQ = s.bq.normalQ := by
  simp [State.enterListening]
@[simp] theorem State.enterListening_txSlot : (s.enterListening).bq.txSlot = s.bq.txSlot := by
  simp [State.enterListening]
@[simp] theorem State.enterListening_deliveryQ : (s.enterListening).bq.deliveryQ = s.bq.deliveryQ := by
  simp [State.enterListening]
@[simp] theorem State.enterListening_deliverySlot : (s.enterListening).bq.deliverySlot = s.bq.deliverySlot := by
  simp [State.enterListening]
@[simp] theorem State.enterListening_contents : (s.enterListening).bq.contents = s.bq.contents := by
  simp [State.enterListening]
@[simp] theorem State.enterListening_pt : (s.enterListening).pt = s.pt := by
  simp [State.enterListening]
@[simp] theorem State.enterListening_lastDesignated : (s.enterListening).eu.lastDesignated = s.eu.lastDesignated := by
  simp [State.enterListening]
@[simp] theorem State.enterListening_takeoverHolder : (s.enterListening).eu.takeoverHolder = s.eu.takeoverHolder := by
  simp [State.enterListening]
@[simp] theorem State.enterListening_bp : (s.enterListening).bp = s.bp := by
  simp [State.enterListening]
@[simp] theorem State.enterListening_link : (s.enterListening).cl.link = s.cl.link := by
  simp [State.enterListening]
@[simp] theorem State.enterListening_holdTimer : (s.enterListening).cl.holdTimer = s.cl.holdTimer := by
  simp [State.enterListening]
@[simp] theorem State.enterListening_idleTimer : (s.enterListening).cl.idleTimer = s.cl.idleTimer := by
  simp [State.enterListening]
@[simp] theorem State.enterListening_linkHold : (s.enterListening).cl.linkHold = s.cl.linkHold := by
  simp [State.enterListening]
@[simp] theorem State.enterListening_receiver : (s.enterListening).cl.receiver = s.cl.receiver := by
  simp [State.enterListening]
@[simp] theorem State.enterListening_lastCredit : (s.enterListening).cl.lastCredit = s.cl.lastCredit := by
  simp [State.enterListening]
@[simp] theorem State.enterListening_expectedSeq : (s.enterListening).cl.expectedSeq = s.cl.expectedSeq := by
  simp [State.enterListening]
@[simp] theorem State.enterListening_acceptTotal : (s.enterListening).cl.acceptTotal = s.cl.acceptTotal := by
  simp [State.enterListening]
@[simp] theorem State.enterListening_deliveredTotal : (s.enterListening).cl.deliveredTotal = s.cl.deliveredTotal := by
  simp [State.enterListening]
@[simp] theorem State.enterListening_restartWindow : (s.enterListening).cl.restartWindow = s.cl.restartWindow := by
  simp [State.enterListening]
@[simp] theorem State.enterListening_responses : (s.enterListening).cl.responses = s.cl.responses := by
  simp [State.enterListening]
@[simp] theorem State.enterListening_tx : (s.enterListening).cl.tx = s.cl.tx := by
  simp [State.enterListening]
@[simp] theorem State.enterListening_me : (s.enterListening).me = s.me := by
  simp [State.enterListening]
@[simp] theorem State.enterListening_pending : (s.enterListening).pending = s.pending := by
  simp [State.enterListening]

@[simp] theorem State.learnClaim_resetAsserted (e : Eid) (z : Zone) (p : Place) : (s.learnClaim e z p).resetAsserted = s.resetAsserted := by
  dsimp only [State.learnClaim]; (repeat' split) <;> rfl
@[simp] theorem State.learnClaim_cf (e : Eid) (z : Zone) (p : Place) : (s.learnClaim e z p).cf = s.cf := by
  dsimp only [State.learnClaim]; (repeat' split) <;> rfl
@[simp] theorem State.learnClaim_tw (e : Eid) (z : Zone) (p : Place) : (s.learnClaim e z p).tw = s.tw := by
  dsimp only [State.learnClaim]; (repeat' split) <;> rfl
@[simp] theorem State.learnClaim_fe (e : Eid) (z : Zone) (p : Place) : (s.learnClaim e z p).fe = s.fe := by
  dsimp only [State.learnClaim]; (repeat' split) <;> rfl
@[simp] theorem State.learnClaim_bq (e : Eid) (z : Zone) (p : Place) : (s.learnClaim e z p).bq = s.bq := by
  dsimp only [State.learnClaim]; (repeat' split) <;> rfl
@[simp] theorem State.learnClaim_pt (e : Eid) (z : Zone) (p : Place) : (s.learnClaim e z p).pt = s.pt := by
  dsimp only [State.learnClaim]; (repeat' split) <;> rfl
@[simp] theorem State.learnClaim_eu (e : Eid) (z : Zone) (p : Place) : (s.learnClaim e z p).eu = s.eu := by
  dsimp only [State.learnClaim]; (repeat' split) <;> rfl
@[simp] theorem State.learnClaim_bp (e : Eid) (z : Zone) (p : Place) : (s.learnClaim e z p).bp = s.bp := by
  dsimp only [State.learnClaim]; (repeat' split) <;> rfl
@[simp] theorem State.learnClaim_cl (e : Eid) (z : Zone) (p : Place) : (s.learnClaim e z p).cl = s.cl := by
  dsimp only [State.learnClaim]; (repeat' split) <;> rfl
@[simp] theorem State.learnClaim_me (e : Eid) (z : Zone) (p : Place) : (s.learnClaim e z p).me = s.me := by
  dsimp only [State.learnClaim]; (repeat' split) <;> rfl
@[simp] theorem State.learnClaim_pending (e : Eid) (z : Zone) (p : Place) : (s.learnClaim e z p).pending = s.pending := by
  dsimp only [State.learnClaim]; (repeat' split) <;> rfl

@[simp] theorem State.issueLearn_resetAsserted (e : Eid) (z : Zone) (p : Place) : (s.issueLearn e z p).resetAsserted = s.resetAsserted := by
  unfold State.issueLearn; split <;> simp
@[simp] theorem State.issueLearn_cf (e : Eid) (z : Zone) (p : Place) : (s.issueLearn e z p).cf = s.cf := by
  unfold State.issueLearn; split <;> simp
@[simp] theorem State.issueLearn_tw (e : Eid) (z : Zone) (p : Place) : (s.issueLearn e z p).tw = s.tw := by
  unfold State.issueLearn; split <;> simp
@[simp] theorem State.issueLearn_fe (e : Eid) (z : Zone) (p : Place) : (s.issueLearn e z p).fe = s.fe := by
  unfold State.issueLearn; split <;> simp
@[simp] theorem State.issueLearn_bq (e : Eid) (z : Zone) (p : Place) : (s.issueLearn e z p).bq = s.bq := by
  unfold State.issueLearn; split <;> simp
@[simp] theorem State.issueLearn_pt (e : Eid) (z : Zone) (p : Place) : (s.issueLearn e z p).pt = s.pt := by
  unfold State.issueLearn; split <;> simp
@[simp] theorem State.issueLearn_eu (e : Eid) (z : Zone) (p : Place) : (s.issueLearn e z p).eu = s.eu := by
  unfold State.issueLearn; split <;> simp
@[simp] theorem State.issueLearn_bp (e : Eid) (z : Zone) (p : Place) : (s.issueLearn e z p).bp = s.bp := by
  unfold State.issueLearn; split <;> simp
@[simp] theorem State.issueLearn_cl (e : Eid) (z : Zone) (p : Place) : (s.issueLearn e z p).cl = s.cl := by
  unfold State.issueLearn; split <;> simp
@[simp] theorem State.issueLearn_me (e : Eid) (z : Zone) (p : Place) : (s.issueLearn e z p).me = s.me := by
  unfold State.issueLearn; split <;> simp
@[simp] theorem State.issueLearn_pending (e : Eid) (z : Zone) (p : Place) : (s.issueLearn e z p).pending = s.pending := by
  unfold State.issueLearn; split <;> simp

@[simp] theorem State.respond_resetAsserted (st : Status) (rs : List Byte) (w : Bool) : (s.respond st rs w).resetAsserted = s.resetAsserted := by
  unfold State.respond; (repeat' split) <;> rfl
@[simp] theorem State.respond_cf (st : Status) (rs : List Byte) (w : Bool) : (s.respond st rs w).cf = s.cf := by
  unfold State.respond; (repeat' split) <;> rfl
@[simp] theorem State.respond_lt (st : Status) (rs : List Byte) (w : Bool) : (s.respond st rs w).lt = s.lt := by
  unfold State.respond; (repeat' split) <;> rfl
@[simp] theorem State.respond_tw (st : Status) (rs : List Byte) (w : Bool) : (s.respond st rs w).tw = s.tw := by
  unfold State.respond; (repeat' split) <;> rfl
@[simp] theorem State.respond_fe (st : Status) (rs : List Byte) (w : Bool) : (s.respond st rs w).fe = s.fe := by
  unfold State.respond; (repeat' split) <;> rfl
@[simp] theorem State.respond_bq (st : Status) (rs : List Byte) (w : Bool) : (s.respond st rs w).bq = s.bq := by
  unfold State.respond; (repeat' split) <;> rfl
@[simp] theorem State.respond_pt (st : Status) (rs : List Byte) (w : Bool) : (s.respond st rs w).pt = s.pt := by
  unfold State.respond; (repeat' split) <;> rfl
@[simp] theorem State.respond_eu (st : Status) (rs : List Byte) (w : Bool) : (s.respond st rs w).eu = s.eu := by
  unfold State.respond; (repeat' split) <;> rfl
@[simp] theorem State.respond_bp (st : Status) (rs : List Byte) (w : Bool) : (s.respond st rs w).bp = s.bp := by
  unfold State.respond; (repeat' split) <;> rfl
@[simp] theorem State.respond_link (st : Status) (rs : List Byte) (w : Bool) : (s.respond st rs w).cl.link = s.cl.link := by
  unfold State.respond; (repeat' split) <;> rfl
@[simp] theorem State.respond_holdTimer (st : Status) (rs : List Byte) (w : Bool) : (s.respond st rs w).cl.holdTimer = s.cl.holdTimer := by
  unfold State.respond; (repeat' split) <;> rfl
@[simp] theorem State.respond_idleTimer (st : Status) (rs : List Byte) (w : Bool) : (s.respond st rs w).cl.idleTimer = s.cl.idleTimer := by
  unfold State.respond; (repeat' split) <;> rfl
@[simp] theorem State.respond_linkHold (st : Status) (rs : List Byte) (w : Bool) : (s.respond st rs w).cl.linkHold = s.cl.linkHold := by
  unfold State.respond; (repeat' split) <;> rfl
@[simp] theorem State.respond_receiver (st : Status) (rs : List Byte) (w : Bool) : (s.respond st rs w).cl.receiver = s.cl.receiver := by
  unfold State.respond; (repeat' split) <;> rfl
@[simp] theorem State.respond_grantTotal (st : Status) (rs : List Byte) (w : Bool) : (s.respond st rs w).cl.grantTotal = s.cl.grantTotal := by
  unfold State.respond; (repeat' split) <;> rfl
@[simp] theorem State.respond_lastCredit (st : Status) (rs : List Byte) (w : Bool) : (s.respond st rs w).cl.lastCredit = s.cl.lastCredit := by
  unfold State.respond; (repeat' split) <;> rfl
@[simp] theorem State.respond_expectedSeq (st : Status) (rs : List Byte) (w : Bool) : (s.respond st rs w).cl.expectedSeq = s.cl.expectedSeq := by
  unfold State.respond; (repeat' split) <;> rfl
@[simp] theorem State.respond_acceptTotal (st : Status) (rs : List Byte) (w : Bool) : (s.respond st rs w).cl.acceptTotal = s.cl.acceptTotal := by
  unfold State.respond; (repeat' split) <;> rfl
@[simp] theorem State.respond_deliveredTotal (st : Status) (rs : List Byte) (w : Bool) : (s.respond st rs w).cl.deliveredTotal = s.cl.deliveredTotal := by
  unfold State.respond; (repeat' split) <;> rfl
@[simp] theorem State.respond_statusPending (st : Status) (rs : List Byte) (w : Bool) : (s.respond st rs w).cl.statusPending = s.cl.statusPending := by
  unfold State.respond; (repeat' split) <;> rfl
@[simp] theorem State.respond_restartWindow (st : Status) (rs : List Byte) (w : Bool) : (s.respond st rs w).cl.restartWindow = s.cl.restartWindow := by
  unfold State.respond; (repeat' split) <;> rfl
@[simp] theorem State.respond_tx (st : Status) (rs : List Byte) (w : Bool) : (s.respond st rs w).cl.tx = s.cl.tx := by
  unfold State.respond; (repeat' split) <;> rfl
@[simp] theorem State.respond_ec (st : Status) (rs : List Byte) (w : Bool) : (s.respond st rs w).ec = s.ec := by
  unfold State.respond; (repeat' split) <;> rfl
@[simp] theorem State.respond_pending (st : Status) (rs : List Byte) (w : Bool) : (s.respond st rs w).pending = s.pending := by
  unfold State.respond; (repeat' split) <;> rfl

/-- A change of role raises ROLE_CHANGE (R118). -/
@[simp] theorem State.announceRole_ec (l : Role) :
    (s.announceRole l).ec = s.ec.notify .roleChange (word16 l.code s.eu.role.code) := by
  simp [State.announceRole]

/-- A change of role makes a STATUS pending, whose restart flag stays (R118, R160). -/
@[simp] theorem State.announceRole_statusPending (l : Role) :
    (s.announceRole l).cl.statusPending = some (s.cl.statusPending.getD false) := by
  simp only [State.announceRole, State.refreshDesignated]
  split <;> rfl

/-- The configuration in force is what the blocks read. -/
theorem State.conf_eq (c : Config) (h : s.cf.config = some c) : s.conf = c := by
  simp [State.conf, h]

/-! ## The outcome of a command -/

/-- Nothing is done while RESET is asserted. -/
@[simp] theorem takeEvent_held (e : Option State) (h : s.resetAsserted = true) : takeEvent s e = .next s := by
  simp [takeEvent, h]

/-- An event that cannot occur changes nothing. -/
@[simp] theorem takeEvent_none : takeEvent s none = .next s := by
  simp [takeEvent]

/-- An event's effect is followed by the arbiter's choice. -/
@[simp] theorem takeEvent_some (t : State) (h : s.resetAsserted = false) : takeEvent s (some t) = .next t.arbitrate := by
  simp [takeEvent, h]

/-- All a command's outcome can be: a next state, the state itself or its effect after the arbiter. -/
theorem takeEvent_cases (e : Option State) (t : State) (h : takeEvent s e = .next t) :
    t = s ∨ ∃ u, s.resetAsserted = false ∧ e = some u ∧ t = u.arbitrate := by
  cases hr : s.resetAsserted <;> cases e <;> simp_all [takeEvent]

/-- A predicate of the state that the effect keeps and the arbiter keeps is kept by the command. -/
theorem takeEvent_keeps (P : State → Prop) (e : Option State) (t : State) (hs : P s) (he : ∀ u, e = some u → P u)
    (ha : ∀ u, P u → P u.arbitrate) (h : takeEvent s e = .next t) : P t := by
  rcases takeEvent_cases s e t h with rfl | ⟨u, -, rfl, rfl⟩
  · exact hs
  · exact ha u (he u rfl)

/-! ## The arbiter -/

/-- All the arbiter can do: nothing, or start a message from one of the six sources. -/
theorem State.arbitrate_cases :
    s.arbitrate = s ∨ s.cl.tx = none ∧ s.cl.link = .up ∧
      ((∃ f, s.arbitrate =
          { s with
            cl.statusPending := none, cl.tx := some (.status s.cf.opState s.eu.role s.eu.segmentDesignated f) }) ∨
        s.arbitrate = { s with cl.lastCredit := s.cl.grantTotal, cl.tx := some (.credit s.cl.grantTotal) } ∨
        (∃ r rs, s.cl.responses = r :: rs ∧ s.arbitrate = { s with cl.responses := rs, cl.tx := some (.response r) }) ∨
        (∃ e es, s.ec.queue = e :: es ∧ s.arbitrate = { s with ec.queue := es, cl.tx := some (.event e) }) ∨
        (∃ r rs body, s.bq.deliveryQ = r :: rs ∧ s.bq.deliverySlot = none ∧ s.arbitrate =
          { s with
            bq.deliveryQ := rs, bq.deliverySlot := some r, cl.tx := some (.dataIn (s.cl.deliveredTotal + 1) body false) }) ∨
        s.arbitrate = { s with cl.tx := some .idle }) := by
  unfold State.arbitrate
  split
  case isFalse => exact .inl rfl
  case isTrue h =>
    obtain ⟨htx, hup⟩ := h
    unfold State.choose
    split
    · exact .inr ⟨htx, hup, .inl ⟨_, rfl⟩⟩
    · split
      · exact .inr ⟨htx, hup, .inr (.inl rfl)⟩
      · split
        case h_1 r rs hr => exact .inr ⟨htx, hup, .inr (.inr (.inl ⟨r, rs, hr, rfl⟩))⟩
        case h_2 =>
          split
          case h_1 e es he => exact .inr ⟨htx, hup, .inr (.inr (.inr (.inl ⟨e, es, he, rfl⟩)))⟩
          case h_2 =>
            unfold State.chooseData
            split
            case h_1 r rs hq hs =>
              split
              · exact .inr ⟨htx, hup, .inr (.inr (.inr (.inr (.inl ⟨r, rs, _, hq, hs, rfl⟩))))⟩
              · split
                · exact .inr ⟨htx, hup, .inr (.inr (.inr (.inr (.inr rfl))))⟩
                · exact .inl rfl
            case h_2 =>
              split
              · exact .inr ⟨htx, hup, .inr (.inr (.inr (.inr (.inr rfl))))⟩
              · exact .inl rfl

/-! ## The card link's receiver -/

/-- How a body can end: at its length, going on from the bytes it has (R149). -/
@[simp] theorem endsAs_iff (n : Fin 271) (got body : List Byte) :
    endsAs n got body = true ↔ body.length = n.val ∧ got <+: body := by
  simp [endsAs]

/-- When the receiver is at the header's place (R149). -/
theorem State.awaitsHeader_iff (bytes : List Byte) :
    s.awaitsHeader bytes = true ↔ s.cl.receiver = .hunt ∨ ∃ got, s.cl.receiver = .header got ∧ got <+: bytes := by
  unfold State.awaitsHeader
  cases s.cl.receiver <;> simp

/-- The message that ends, other than a DATA_OUT, is the one whose header the receiver holds (R149). -/
theorem State.endingMessage_eq_some (body : List Byte) (h : LinkHeader) :
    s.endingMessage body = some h ↔ ∃ got, s.cl.receiver = .other h got ∧ body.length = h.length.val ∧ got <+: body := by
  unfold State.endingMessage
  cases s.cl.receiver <;> simp
  aesop

/-! ## The engine's queue -/

/-- An engine at work takes nothing (R164). -/
theorem Management.takeNext_busy (m : Management) (op : OpState) (h : m.stage ≠ .idle) : m.takeNext op = m := by
  unfold Management.takeNext
  cases hs : m.stage <;> simp_all

/-- An idle engine takes the head of its queue with the operating state standing (R164). -/
theorem Management.takeNext_idle (m : Management) (op : OpState) (r : Request) (rs : List Request) (h : m.stage = .idle)
    (hq : m.queue = r :: rs) : m.takeNext op = { m with queue := rs, current := some r, stage := .taken op } := by
  simp [Management.takeNext, h, hq]

/-! ## Buffers -/

/-- All the push rule can do (R67). -/
theorem State.pushRule_cases (b : BufNo) :
    (0 < s.deficit ∧ s.pushRule b =
      { s with bq.reserve := s.bq.reserve ++ [⟨b, .opened⟩], cl.grantTotal := s.cl.grantTotal + 1 }) ∨
    (s.deficit = 0 ∧ s.pushRule b = { s with bq.free := b :: s.bq.free }) := by
  unfold State.pushRule
  split
  case isTrue h => exact .inl ⟨h, rfl⟩
  case isFalse h => exact .inr ⟨Nat.eq_zero_of_not_pos h, rfl⟩

/-- The discard of buffers leaves all but the counters, the free stack, the reserve and the grant total. -/
theorem State.discardAll_frame (c : Counter) (bs : List BufNo) :
    ∃ e free reserve grant, s.discardAll c bs =
      { s with ec := e, bq.free := free, bq.reserve := reserve, cl.grantTotal := grant } := by
  induction bs generalizing s with
  | nil => exact ⟨_, _, _, _, rfl⟩
  | cons b bs ih =>
    obtain ⟨e, free, reserve, grant, h⟩ := ih ((s.count c).pushRule b)
    rcases (s.count c).pushRule_cases b with ⟨-, hp⟩ | ⟨-, hp⟩ <;>
      exact ⟨e, free, reserve, grant, by simp only [State.discardAll, h]; rw [hp]; rfl⟩

/-- Counting nothing changes nothing. -/
@[simp] theorem EventUnit.countN_zero (e : EventUnit) (c : Counter) : e.countN c 0 = e := by
  cases e
  simp only [EventUnit.countN]
  congr 1
  apply Vector.ext
  simp

/-- Counting twice counts the sum. -/
theorem EventUnit.countN_add (e : EventUnit) (c : Counter) (m n : Nat) :
    (e.countN c m).countN c n = e.countN c (m + n) := by
  simp only [EventUnit.countN]
  congr 1
  apply Vector.ext
  intro i hi
  simp [Vector.getElem_set, BitVec.ofNat_add]
  split <;> simp [BitVec.add_assoc]

/-- A buffer that joins the reserve takes up one unit of the deficit. -/
theorem State.deficit_joined (b : BufNo) (k : Nat) (h : s.deficit = k + 1) :
    ({ s with bq.reserve := s.bq.reserve ++ [⟨b, .opened⟩], cl.grantTotal := s.cl.grantTotal + 1 } : State).deficit = k := by
  show (if s.creditEligible = true then s.conf.localCredits - (s.bq.reserve ++ [(⟨b, .opened⟩ : ReserveBuf)]).length else 0) = k
  unfold State.deficit at h
  split at h
  case isTrue hc => rw [if_pos hc]; simp; omega
  case isFalse => omega

/-- All the discard of buffers does: one count each; the first of them fill the deficit, each with a fresh credit, and the rest go on
top of the free stack (R67, R77). -/
theorem State.discardAll_eq (c : Counter) (bs : List BufNo) :
    s.discardAll c bs =
      { s with
        ec := s.ec.countN c bs.length
        bq.reserve := s.bq.reserve ++ (bs.take s.deficit).map fun b => ⟨b, .opened⟩
        bq.free := (bs.drop s.deficit).reverse ++ s.bq.free
        cl.grantTotal := s.cl.grantTotal + BitVec.ofNat 8 (min s.deficit bs.length) } := by
  induction bs generalizing s with
  | nil => simp [State.discardAll]
  | cons b bs ih =>
    have hec : (s.ec.count c).countN c bs.length = s.ec.countN c (b :: bs).length := by
      rw [List.length_cons, Nat.add_comm, ← EventUnit.countN_add]; rfl
    simp only [State.discardAll, ih]
    rcases (s.count c).pushRule_cases b with ⟨hd, hp⟩ | ⟨hd, hp⟩
    · obtain ⟨k, hk⟩ : ∃ k, s.deficit = k + 1 := ⟨s.deficit - 1, by have : 0 < s.deficit := hd; omega⟩
      rw [hp, (s.count c).deficit_joined b k hk]
      simp [State.count, hec, hk, Nat.succ_min_succ, BitVec.ofNat_add, BitVec.add_assoc, BitVec.add_comm 1#8]
    · rw [hp]
      have h0 : ({ s.count c with bq.free := b :: (s.count c).bq.free } : State).deficit = 0 := hd
      have hs : s.deficit = 0 := hd
      simp [State.count, hec, hs] at h0 ⊢
      simp [h0]

/-- Discarding one list and then another is discarding both. -/
theorem State.discardAll_append (c : Counter) (as bs : List BufNo) :
    s.discardAll c (as ++ bs) = (s.discardAll c as).discardAll c bs := by
  induction as generalizing s with
  | nil => rfl
  | cons a as ih => simp [State.discardAll, ih]

/-- The departure's part on the slot and both BTQs: the waiting frames discarded in that order, a frame on the medium marked (R77 steps
1 to 3, R78). -/
theorem State.departTransmit_eq :
    s.departTransmit =
      { s.discardAll .roleDiscard
          ((match s.bq.txSlot with | .waiting r => [r.buf] | .empty | .onMedium _ _ => []) ++
            s.bq.urgentQ.map TxRecord.buf ++ s.bq.normalQ.map TxRecord.buf) with
        bq.urgentQ := [], bq.normalQ := []
        bq.txSlot := match s.bq.txSlot with | .onMedium r _ => .onMedium r true | .empty | .waiting _ => .empty } := by
  have slot : s.departSlot =
      { s.discardAll .roleDiscard (match s.bq.txSlot with | .waiting r => [r.buf] | .empty | .onMedium _ _ => []) with
        bq.txSlot := match s.bq.txSlot with | .onMedium r _ => .onMedium r true | .empty | .waiting _ => .empty } := by
    cases h : s.bq.txSlot with
    | empty => simp [State.departSlot, h, State.discardAll]; rw [← h]
    | onMedium r m => simp [State.departSlot, h, State.discardAll]
    | waiting r => simp only [State.departSlot, h, State.discardAll_eq]; rfl
  simp only [State.departTransmit, State.departUrgent, State.departNormal, slot, State.discardAll_append]
  generalize (match s.bq.txSlot with | .waiting r => [r.buf] | .empty | .onMedium _ _ => []) = w
  have hu : (s.discardAll .roleDiscard w).bq.urgentQ = s.bq.urgentQ := by simp only [State.discardAll_eq]
  have hn : ((s.discardAll .roleDiscard w).discardAll .roleDiscard (s.bq.urgentQ.map TxRecord.buf)).bq.normalQ =
      s.bq.normalQ := by
    simp only [State.discardAll_eq]
  rw [← hn, ← hu]
  generalize s.discardAll .roleDiscard w = x
  generalize hx : x.discardAll .roleDiscard (x.bq.urgentQ.map TxRecord.buf) = y
  simp only [State.discardAll_eq] at hx ⊢
  subst hx
  rfl

/-! ## The slot inside the gap -/

/-- All a slot that passes can do: nothing, or one step inside the gap (R134, R144). -/
theorem State.passSlot_cases :
    s.passSlot = s ∨
      (s.resetAsserted = false ∧ s.bp.ladder = .gap 2 ∧
        ∃ n, n ≤ max s.bp.quietCount 65 ∧ s.passSlot = { s with bp.ladder := .gap 1, bp.quietCount := n }) := by
  unfold State.passSlot
  split
  case isFalse => exact .inl rfl
  case isTrue h =>
    refine .inr ⟨by simpa using h.2, h.1, ?_⟩
    unfold State.stepQuiet
    split
    · exact ⟨_, by simp only [quietSlots]; omega, rfl⟩
    · exact ⟨_, Nat.le_max_left _ _, rfl⟩

/-! ## The table -/

/-- A learn writes one bucket at most, and counts or notifies (R8). -/
theorem State.learnClaim_frame (e : Eid) (z : Zone) (p : Place) :
    ∃ ec, s.learnClaim e z p =
      { s with lt := putBucket s.lt (bucketOf e) (learnBucket (bucketFor s.lt e) e z p), ec := ec } := by
  unfold State.learnClaim
  dsimp only
  repeat' split
  all_goals exact ⟨_, rfl⟩

/-- The way found holds the EID. -/
theorem findWay_some (b : Bucket) (e : Eid) (w : Way) (h : findWay b e = some w) : ∃ x, b[w] = some x ∧ x.eid = e := by
  have h := List.find?_some h
  rw [Option.any_eq_true] at h
  obtain ⟨x, hx, he⟩ := h
  exact ⟨x, hx, by simpa using he⟩

/-- The empty way found is empty. -/
theorem emptyWay_some (b : Bucket) (w : Way) (h : emptyWay b = some w) : b[w] = none := by
  have h := List.find?_some h
  simpa using h

/-- A bucket read after it was written. -/
@[simp] theorem putBucket_same (t : Table) (n : BucketNo) (b : Bucket) : (putBucket t n b)[n] = b := by
  simp [putBucket]

/-- Another bucket after a bucket was written. -/
theorem putBucket_other (t : Table) (n m : BucketNo) (b : Bucket) (h : m ≠ n) : (putBucket t n b)[m] = t[m] := by
  simp [putBucket, Vector.getElem_set, Fin.ext_iff] at *
  omega

end Sys2Proof.Machine
end

