-- ==== Sys2Proof/WellFormed.lean ====
section
/-! DEFINITION. Which commands there are: the operands an event of the table can bring (R122, R126, R149). -/

namespace Sys2Proof

/-- The command's operands are ones its event can bring. -/
def Instr.wellFormed : Instr → Bool
  | .frameReceived rest => decide (rest.length ≤ 1025)
  | .dataOut body => decide (body.length ≤ Machine.linkBodyLimit)
  | .request _ body => decide (body.length ≤ Machine.linkBodyLimit)
  | .dataOutHeader header arrived => decide (arrived.length ≤ header.length)
  | .unusableMessage type length => Machine.isUnusable type length
  | .linkHeaderRejected bytes => Machine.isRejectedHeader bytes
  | .deviceReset | .resetRelease _ | .configByteRead _ | .mediumGoesIdle _ | .mediumLeavesIdle | .rungStart
  | .quietCountExpiry | .ownHeaderSent | .controlFrameSent | .dataFrameSent | .collision | .jamEnd | .jamSeen
  | .headerReceived _ | .announceTimerExpiry | .listenTimerExpiry | .receiveReady _ | .idle
  | .messageBadCheck | .linkHoldExpiry _ | .idleTimerExpiry | .dataInEnd | .responseEnd _ | .statusEnd | .messageEnd
  | .readEntry | .readBucket | .addStatic | .remove | .flush | .readPeer | .readStatus | .readCounters | .ackEvent
  | .restart _ | .badRequest | .sweepTimerExpiry | .bucketVisit | .learn _ _ | .lookup _ _ | .btqHandover
  | .deliveryHandover => true

end Sys2Proof
end

