-- ==== Sys2Proof/Tests/Slice0.lean ====
section
/-! SUPPORT. Tests: expected values come from the worked sequences and examples of spec/, or are computed from its rules outside the model.
The `witness_` theorems show a state and operands that meet the hypotheses of each obligation, clause by clause. -/

namespace Sys2Proof.Tests

-- One theorem after another: each waiting kernel evaluation holds a thread, and there are many here.
set_option Elab.async false

open Sys2Proof Sys2Proof.Machine

/-! ## Helpers -/

/-- The state after a command; the state itself where it stops. -/
def after (c : Instr) (s : State) : State :=
  match exec c s with
  | .next t => t
  | .fault _ | .refused _ => s

/-- The configuration of the worked sequences of chapter 3: segment 5, zones 0 to 3. -/
def cfg : Config :=
  { segment := 5, preference := 8, zones := 0x0F#8, interval := 10, linkHold := 50, sweepPeriod := 30, ageLimit := 4, learn := true,
    dropUnknown := false, preempt := false, localCredits := 8 }

/-- Station 5 RUNNING with its link UP in a role; 8 buffers in the reserve, 56 free, and an IDLE going out. -/
def up (role : Role) : State :=
  { State.reset with
    cf := ⟨.running, 5, some cfg, []⟩
    bq := { Pool.reset with
      free := (List.finRange 64).drop 8, reserve := ((List.finRange 64).take 8).map fun b => ⟨b, .opened⟩ }
    tw := { Walker.reset with sweepTimer := .running 30 }
    pt := { PeerTable.reset with announceTimer := .running 10 }
    eu := { Election.reset with role := role, listenTimer := if role = .listening then .running 30 else .stopped }
    bp := { BusPort.reset with sync := .synced, medium := .idle, ladder := .gap 2 }
    cl := { CardLink.reset with
      link := .up, holdTimer := .running 500, idleTimer := .running 250, receiver := .header [], tx := some .idle } }

/-- The same station with a frame, or the control frame given, going out. -/
def driving (t : Transmitter) (slot : TxSlot) (control : Option InFlight) : State :=
  let s := up .designated
  { s with bq.txSlot := slot, bp := { s.bp with transmitter := t, ladder := .busy, medium := .carrier, inFlight := control } }

/-- The same station hearing a frame. -/
def hearing (a : Assembly) : State :=
  let s := up .designated
  { s with bp := { s.bp with ladder := .busy, medium := .carrier, assembly := a } }

/-- The same station with a request taken. -/
def asked (body : List Byte) : State :=
  let s := up .designated
  { s with me := ⟨[], some ⟨0x3C#8, body⟩, .taken .running, false⟩ }

/-- The same station in the body of a message other than a DATA_OUT, with the bytes so far. -/
def ending (h : LinkHeader) (got : List Byte) : State := { up .designated with cl.receiver := .other h got }

/-- The bodies of the responses waiting. -/
def answers (s : State) : List (List Byte) := s.cl.responses.map Response.body

/-- A peer table with the entries given. -/
def peersOf (l : List (Station × Peer)) : Vector (Option Peer) 32 := Vector.ofFn fun n => l.lookup n

/-- A location table with one bucket's ways given. -/
def tableOf (n : BucketNo) (b : Bucket) : Table := emptyTable.set n b

/-- A peer that is DESIGNATED. -/
def peer (segment : Nat) (role : Role) (preference : Nat) (zones : ZoneSet) (missed : Nat) : Peer :=
  ⟨segment, role, preference, zones, 10, missed⟩

/-- The peer table of section 3.9. -/
def peers39 : Vector (Option Peer) 32 :=
  peersOf [(9, peer 9 .designated 8 0x0C#8 0), (12, peer 12 .designated 8 0x02#8 2), (14, peer 12 .standby 8 0x0E#8 0),
    (20, peer 20 .designated 8 0x30#8 0)]

/-- Entries, for short. -/
def dyn (e : Eid) (z : Zone) (p : Place) (age : Nat) : Option Entry := some ⟨e, z, p, .dynamic, age⟩
/-- A STATIC entry. -/
def sta (e : Eid) (z : Zone) (p : Place) : Option Entry := some ⟨e, z, p, .static, 0⟩

/-- Bucket 0x21 after step 7 of section 1.8. -/
def bucket7 : Bucket := #v[sta 0x2100#16 1 .here, dyn 0x0120#16 4 (.station 14) 0, dyn 0x0223#16 2 (.station 9) 0, dyn 0x0322#16 3 (.station 12) 1]
/-- Bucket 0x21 after step 8 of section 1.8. -/
def bucket8 : Bucket := bucket7.set 3 (dyn 0x1031#16 2 (.station 9) 0)
/-- Bucket 0x21 after step 11 of section 1.8. -/
def bucket11 : Bucket :=
  #v[sta 0x2100#16 1 .here, sta 0x4061#16 2 (.station 12), sta 0x0223#16 2 (.station 9), sta 0x1031#16 2 .here]

/-- Station 5 with one bucket of the table given. -/
def withBucket (n : BucketNo) (b : Bucket) (s : State) : State := { s with lt := tableOf n b }

/-! ## Well-formed commands: an ill-formed term for each check, and the boundary -/

theorem test_wf_frame_refused : (Instr.frameReceived (List.replicate 1026 0)).wellFormed = false := by decide +kernel
theorem test_wf_frame_longest : (Instr.frameReceived (List.replicate 1025 0)).wellFormed = true := by decide +kernel
theorem test_wf_dataOut_refused : (Instr.dataOut (List.replicate 271 0)).wellFormed = false := by decide +kernel
theorem test_wf_dataOut_longest : (Instr.dataOut (List.replicate 270 0)).wellFormed = true := by decide +kernel
theorem test_wf_request_refused : (Instr.request 0 (List.replicate 271 0)).wellFormed = false := by decide +kernel
theorem test_wf_unusable_refused : (Instr.unusableMessage 0x41#8 1).wellFormed = false := by decide
theorem test_wf_unusable_length : (Instr.unusableMessage 0x41#8 2).wellFormed = true := by decide
/-- The header bytes A5 50 00 00 00 FC are good: FC is the CRC-8 of 50 00 00 00. -/
theorem test_wf_header_refused :
    (Instr.linkHeaderRejected [0xA5#8, 0x50#8, 0, 0, 0, 0xFC#8]).wellFormed = false := by decide +kernel
theorem test_wf_header_bad_check :
    (Instr.linkHeaderRejected [0xA5#8, 0x50#8, 0, 0, 0, 0xFD#8]).wellFormed = true := by decide +kernel

theorem test_wf_arrived_refused : (Instr.dataOutHeader ⟨0x10#8, 1#8, 2⟩ [0, 0, 0]).wellFormed = false := by decide
theorem test_wf_arrived_whole : (Instr.dataOutHeader ⟨0x20#8, 1#8, 2⟩ [0, 0]).wellFormed = true := by decide

/-! ## Check sequences and layouts -/

/-- The published check values of CRC-8 (0x07) and CRC-16 (0x1021 from 0xFFFF) over "123456789". -/
theorem test_crc :
    crc8 [0x31#8, 0x32, 0x33, 0x34, 0x35, 0x36, 0x37, 0x38, 0x39] = 0xF4#8 ∧
      crc16 [0x31#8, 0x32, 0x33, 0x34, 0x35, 0x36, 0x37, 0x38, 0x39] = 0x29B1#16 := by decide +kernel

/-- Section 7.3: the flood of station 5, byte 8 computed outside the model. -/
def floodHeader : Vector Byte 9 := #v[0x2D#8, 0x00#8, 0x05#8, 0x3F#8, 0xFF#8, 0xFF#8, 0x0A#8, 0x05#8, 0x21#8]

theorem test_header_fields :
    frameKind floodHeader = 0 ∧ frameUrgent floodHeader = true ∧ frameZone floodHeader = 3 ∧ frameLength floodHeader = 256 ∧
      frameSource floodHeader = 5 ∧ frameDestField floodHeader = 63 ∧ frameDstEid floodHeader = 0xFFFF#16 ∧
      frameSrcEid floodHeader = 0x0A05#16 ∧ crc8 (floodHeader.toList.take 8) = 0x21#8 := by decide +kernel

/-- Section 1.2's note and section 3.9: EIDs and their buckets. -/
theorem test_buckets :
    [0x0120#16, 0x0223, 0x0322, 0x1031, 0x2100, 0x4061].map bucketOf = [0x21, 0x21, 0x21, 0x21, 0x21, 0x21] ∧
      bucketOf 0x0A05#16 = 0x0F ∧ bucketOf 0x7777#16 = 0 ∧ bucketOf 0x0224#16 = 0x26 := by decide

/-- Sections 8.12 steps 2, 6 and 7: rung offsets. -/
theorem test_rung_offsets :
    (5 : Station) - 9 - 1 = 27 ∧ (12 : Station) - 4 - 1 = 7 ∧ (17 : Station) - 9 - 1 = 7 ∧ (12 : Station) - 5 - 1 = 6 ∧
      (3 : Station) - 31 - 1 = 3 := by decide

/-- The command an ended message is: IDLE, REQUEST, RECEIVE_READY, and a failed check; the CRCs computed outside the model. -/
theorem test_messages :
    messageCommand [0xA5#8, 0x50, 0, 0, 0, 0xFC] [] [0x2A#8, 0xAD] = some .idle ∧
      messageCommand [0xA5#8, 0x20, 0x3C, 0, 2, 0xDB] [0x02#8, 0x21] [0x91#8, 0x7B] = some (.request 0x3C#8 [0x02#8, 0x21]) ∧
      messageCommand [0xA5#8, 0x41, 7, 0, 1, 0x9C] [0x05#8] [0x7C#8, 0x67] = some (.receiveReady 0x05#8) ∧
      messageCommand [0xA5#8, 0x41, 7, 0, 1, 0x9C] [0x05#8] [0x7C#8, 0x68] = some .messageBadCheck ∧
      headerCommand [0xA5#8, 0x10, 1, 0, 7, 0x19] [] = some (.dataOutHeader ⟨0x10#8, 1#8, 7⟩ []) ∧
      headerCommand [0xA5#8, 0x41, 7, 0, 1, 0x9C] [0x05#8] = some (.dataOutHeader ⟨0x41#8, 7#8, 1⟩ [0x05#8]) := by decide +kernel

/-- R122: the sync pattern 1010101010101011 goes before byte 0, here of a TAKEOVER: kind 2, urgent, zone 0, length 2. -/
theorem test_frame_sync :
    (driving .frame .empty (some ⟨.takeover ⟨5, none⟩, false⟩)).frameBeingSent.map (·.take 5) =
      some [0xAA#8, 0xAB#8, 0xA0#8, 0x02#8, 0x05#8] := by decide +kernel

/-! ## Start-up -/

theorem test_deviceReset : (after .deviceReset (up .designated)).resetAsserted = true ∧
    (after .deviceReset (up .designated)).cf.opState = .loading := by decide +kernel

theorem test_resetRelease : (after (.resetRelease 12) State.reset).cf.station = 12 := by decide +kernel

/-- The image of section 7.7, its checksum included. -/
def image77 : List Byte :=
  [0xC4#8, 0x14, 0x0C, 0x08, 0x0F, 0x0A, 0x32, 0x1E, 0x04, 0x05, 0x08, 0x00, 0x00, 0x01, 0x21, 0x00, 0x01, 0x40, 0xC0, 0x76]

/-- Station 12 in LOADING with all of an image but its last byte. -/
def reading (image : List Byte) : State := { State.reset with cf := ⟨.loading, 12, none, image.dropLast⟩ }

/-- The state after the last byte of an image. -/
def loaded (image : List Byte) : State := after (.configByteRead (some (image.getLastD 0))) (reading image)

theorem test_image_accepted :
    (loaded image77).cf.opState = .syncing ∧ (loaded image77).cf.config.map Config.preempt = some true ∧
      (loaded image77).lt[0x21][0] = sta 0x2100#16 1 .here := by decide +kernel

/-- Sections 7.7 and 12: reasons 1, 4 with offset 9, and 6 with index 1; the changed checksums computed outside the model. -/
theorem test_image_rejected :
    (loaded (image77.set 9 0x0D#8)).ec.queue.map EventRecord.argument = [0x0100#16] ∧
      (loaded (((image77.set 9 0x0D#8).set 18 0xC0#8).set 19 0x6E#8)).ec.queue.map EventRecord.argument = [0x0409#16] ∧
      (loaded [0xC4#8, 0x18, 0x0C, 0x08, 0x0F, 0x0A, 0x32, 0x1E, 0x04, 0x05, 0x08, 0x00, 0x00, 0x02, 0x21, 0x00, 0x01, 0x40, 0x21,
        0x00, 0x02, 0x09, 0x9D, 0x68]).ec.queue.map EventRecord.argument = [0x0601#16] := by decide +kernel

/-! ## The bus port -/

theorem test_mediumGoesIdle :
    (after (.mediumGoesIdle false) (hearing (.frame floodHeader))).bp.ladder = .gap 2 ∧
      (after (.mediumGoesIdle false) (hearing (.frame floodHeader))).ec.counters[6] = 1 := by decide +kernel

/-- R143: a frame that ends before its byte 8 is a header error; one that a jam cut counts nothing. -/
theorem test_mediumGoesIdle_truncated :
    (after (.mediumGoesIdle true) (hearing .empty)).ec.counters[5] = 1 ∧
      (after (.mediumGoesIdle true) (after .jamSeen (hearing .empty))).ec.counters[5] = 0 := by decide +kernel

theorem test_mediumLeavesIdle : (after .mediumLeavesIdle (up .designated)).bp.ladder = .busy := by decide +kernel

/-- A BTQ record with its attempt count. -/
def record (b : BufNo) (urgent : Bool) (attempts : Nat) : TxRecord := ⟨b, .station 9, urgent, 2, 0x0223#16, 0x0A05#16, 1, attempts⟩

/-- Section 8.12, step 2: with P = 9 station 5 sends its normal record at rung 59, and not at rung 27. -/
def ladder (p : Station) (k : Fin 64) : State :=
  let s := up .designated
  { s with bp := { s.bp with pointer := p, ladder := .rung (k - 1) }, bq.normalQ := [record 60 false 0] }

theorem test_rungStart_normal_rung :
    (after .rungStart (ladder 9 59)).bq.txSlot = .onMedium (record 60 false 0) false ∧
      (after .rungStart (ladder 9 27)).bq.txSlot = .empty := by decide +kernel

/-- R74: the ANNOUNCE goes before the data frame, at the urgent rung. -/
theorem test_rungStart_announce :
    (after .rungStart { ladder 9 27 with eu.announceHolder := some ⟨5, .designated, 8, 0x0F#8, 10⟩ }).bp.inFlight =
      some ⟨.announce ⟨5, .designated, 8, 0x0F#8, 10⟩, false⟩ := by decide +kernel

/-- Station 5 in SYNCING, one slot short of the quiet count's end. -/
def syncing : State :=
  let s := up .disabled
  { s with cf.opState := .syncing, bp := { s.bp with sync := .seeking, quietCount := 65 }, bq := Pool.reset, pt.announceTimer := .stopped, tw.sweepTimer := .stopped }

theorem test_quietCountExpiry :
    (after .quietCountExpiry syncing).cf.opState = .running ∧ (after .quietCountExpiry syncing).eu.role = .listening ∧
      (after .quietCountExpiry syncing).cl.grantTotal = 8#8 ∧
      (after .quietCountExpiry { syncing with bp.quietCount := 64 }).cf.opState = .syncing := by decide +kernel

theorem test_ownHeaderSent : (after .ownHeaderSent (driving .frame (.onMedium (record 60 false 0) false) none)).bp.pointer = 5 := by
  decide +kernel

theorem test_controlFrameSent :
    (after .controlFrameSent (driving .frame .empty (some ⟨.takeover ⟨5, none⟩, false⟩))).ec.counters[1] = 1 := by decide +kernel

/-- R75, R67: with the reserve full the buffer goes on top of the free stack; section 3.9: else to the reserve with a credit. -/
theorem test_dataFrameSent :
    (after .dataFrameSent (driving .frame (.onMedium (record 3 false 0) false) none)).bq.free.head? = some 3 ∧
      (after .dataFrameSent { driving .frame (.onMedium (record 3 false 0) false) none with bq.reserve := [] }).cl.grantTotal = 1 := by
  decide +kernel

/-- Section 8.12, step 3. -/
theorem test_collision :
    (after .collision (driving .frame (.onMedium (record 60 false 0) false) none)).bp.pointer = 31 ∧
      (after .collision (driving .frame (.onMedium (record 60 false 0) false) none)).ec.counters[2] = 1 := by decide +kernel

theorem test_jamEnd :
    (after .jamEnd (driving .jam (.onMedium (record 60 false 0) false) none)).bq.txSlot = .waiting (record 60 false 1) ∧
      (after .jamEnd (driving .jam (.onMedium (record 60 false 15) false) none)).ec.queue =
        [⟨.excessCollisions, 0x0009#16, 0, 0⟩] := by decide +kernel

theorem test_jamSeen : (after .jamSeen (hearing .empty)).bp.pointer = 31 ∧ (after .jamSeen (hearing .empty)).ec.counters[8] = 1 := by
  decide +kernel

/-- Section 3.10, frame 1: from 9 to station 5, EID 0x0A05, source 0x0224, zone 2; byte 8 computed outside the model. -/
def header9 : Vector Byte 9 := #v[0x08#8, 0x01, 0x09, 0x05, 0x0A, 0x05, 0x02, 0x24, 0x46]

theorem test_headerReceived :
    (after (.headerReceived header9) (hearing .empty)).bp.pointer = 9 ∧
      (after (.headerReceived (header9.set 8 0)) (hearing .empty)).ec.counters[5] = 1 := by decide +kernel

/-- A good header with the own number, as section 11.8, step 4 has it. -/
theorem test_headerReceived_duplicate :
    (after (.headerReceived floodHeader) (hearing .empty)).cf.opState = .silent ∧
      (after (.headerReceived floodHeader) (hearing .empty)).ec.alarms.dupStation = true := by decide +kernel

/-- A frame with its check, and the same cut short; check bytes computed outside the model. -/
theorem test_frameReceived :
    (after (.frameReceived [0xAB#8, 0xD1, 0x2F]) (hearing (.frame header9))).fe.backplane =
        [⟨false, .learn ⟨9, .station 5, false, 2, 0x0A05#16, 0x0224#16, [0xAB#8]⟩ .deliver⟩] ∧
      (after (.frameReceived [0xAB#8, 0xD1]) (hearing (.frame header9))).ec.counters[6] = 1 := by decide +kernel

/-- An ANNOUNCE of station 14: segment 12, STANDBY, preference 10, zones 1 to 3, interval 20, the spare byte 0x7E. -/
def announce14 : Vector Byte 9 := #v[0x60#8, 0x06, 0x0E, 0x3F, 0, 0, 0, 0, 0xA1]

theorem test_frameReceived_announce :
    (after (.frameReceived [0x0C#8, 0x02, 0x0A, 0x0E, 0x14, 0x7E, 0x2D, 0xD1]) (hearing (.frame announce14))).pt.peers[14] =
        some ⟨12, .standby, 10, 0x0E#8, 20, 0⟩ ∧
      (after (.frameReceived [0x0C#8, 0x02, 0x14, 0x0E, 0x14, 0x00, 0x0B, 0x75]) (hearing (.frame announce14))).ec.counters[7] = 1 := by
  decide +kernel

/-! ## Peer table and election -/

/-- R90, R91: the fourth missed count removes the peer, whose place is flushed. -/
theorem test_announceTimerExpiry :
    (after .announceTimerExpiry { up .designated with pt.peers := peersOf [(9, peer 9 .designated 8 0x0C#8 3)] }).pt.peers[9] = none ∧
      (after .announceTimerExpiry { up .designated with pt.peers := peersOf [(9, peer 9 .designated 8 0x0C#8 3)] }).tw.job =
        some (.internalFlush [.station 9]) := by decide +kernel

/-- R101, R107: station 5 alone takes DESIGNATED; with an equal preference the lower number ranks higher. -/
theorem test_listenTimerExpiry :
    (after .listenTimerExpiry { up .listening with pt.peers := peersOf [(9, peer 5 .listening 8 0x0F#8 0)] }).eu.role = .designated ∧
      (after .listenTimerExpiry { up .listening with pt.peers := peersOf [(4, peer 5 .listening 8 0x0F#8 0)] }).eu.role = .standby := by
  decide +kernel

/-! ## The card link -/

/-- R69, R149: the oldest OPEN buffer becomes RECEIVING and holds the payload bytes that have arrived; a header of another type takes
none. -/
theorem test_dataOutHeader :
    (after (.dataOutHeader ⟨0x10#8, 0, 7⟩ [1, 2, 3, 4, 5, 6, 0xAB#8]) (up .designated)).bq.reserve.head? = some ⟨0, .receiving⟩ ∧
      (after (.dataOutHeader ⟨0x10#8, 0, 7⟩ [1, 2, 3, 4, 5, 6, 0xAB#8]) (up .designated)).bq.contents[0] = [0xAB#8] ∧
      (after (.dataOutHeader ⟨0x10#8, 0, 7⟩ []) { up .designated with bq.reserve := [] }).cl.receiver =
        .body ⟨0x10#8, 0, 7⟩ [] .overrun := by decide +kernel

theorem test_dataOutHeader_other :
    (after (.dataOutHeader ⟨0x20#8, 9, 3⟩ [0x01#8]) (up .designated)).cl.receiver = .other ⟨0x20#8, 9, 3⟩ [0x01#8] ∧
      (after (.dataOutHeader ⟨0x20#8, 9, 3⟩ [0x01#8]) (up .designated)).bq.reserve.head? = some ⟨0, .opened⟩ := by decide +kernel

/-- A DATA_OUT being received into buffer 0, with a tag. -/
def receiving (tag : Byte) : State :=
  let s := up .designated
  { s with
    bq.reserve := s.bq.reserve.map fun r => if r.num = 0 then ⟨0, .receiving⟩ else r
    cl.receiver := .body ⟨0x10#8, tag, 7⟩ [] (.into 0) }

/-- A body for destination 0x0223, source 0x0A05, zone 2, normal, one payload byte (section 3.9, frame a). -/
def bodyA : List Byte := [0x02#8, 0x23, 0x0A, 0x05, 0x02, 0x00, 0xAB]

/-- R156: the tag expected is taken; two messages lost before it free two OPEN buffers, which the push rule regrants. -/
theorem test_dataOut :
    (after (.dataOut bodyA) (receiving 0)).cl.expectedSeq = 1 ∧
      (after (.dataOut bodyA) (receiving 2)).ec.counters[25] = 2 := by decide +kernel

/-- R69, R156: a gap of 8, the reserve size, is refused with cause 1; the body stays where it was written. -/
theorem test_dataOut_refused :
    (after (.dataOut bodyA) (receiving 8)).ec.queue.map EventRecord.argument = [0x0108#16] ∧
      (after (.dataOut bodyA) (receiving 8)).bq.contents[0] = [0xAB#8] := by decide +kernel

theorem test_request :
    (after (.request 0x11#8 [0x05#8, 1, 9]) (ending ⟨0x20#8, 0x11#8, 3⟩ [0x05#8])).me.stage = .taken .running ∧
      answers (after (.request 0x11#8 [0x05#8, 1, 9])
        { ending ⟨0x20#8, 0x11#8, 3⟩ [] with me := ⟨List.replicate 4 ⟨0, []⟩, some ⟨0, []⟩, .taken .running, false⟩ }) =
        [[5#8, 5#8]] := by decide +kernel

/-- R157: an allowance of 64 is taken, one of 65 refused with cause 3. -/
theorem test_receiveReady :
    (after (.receiveReady 64) (ending ⟨0x41#8, 0, 1⟩ [])).cl.acceptTotal = 64#8 ∧
      (after (.receiveReady 65) (ending ⟨0x41#8, 0, 1⟩ [])).ec.queue = [⟨.linkProtocol, 0x0341#16, 0, 0⟩] := by decide +kernel

theorem test_idle :
    (after .idle { ending ⟨0x50#8, 0, 0⟩ [] with cl.holdTimer := .running 10 }).cl.holdTimer = .running 500 := by decide +kernel

/-- R151: the first good message brings the link UP; the STATUS is chosen at once. -/
def downState : State := { up .disabled with cl := CardLink.reset, bq := Pool.reset }
/-- The same in the body of a message. -/
def downEnding (h : LinkHeader) : State := { downState with cl.receiver := .other h [] }

/-- R162: a message whose receiver a DOWN has sent to HUNT does not end, and brings nothing UP. -/
theorem test_idle_link_up :
    (after .idle (downEnding ⟨0x50#8, 0, 0⟩)).cl.tx = some (.status .running .listening none false) ∧
      (after .idle (downEnding ⟨0x50#8, 0, 0⟩)).cl.grantTotal = 8#8 ∧ (after .idle downState).cl.link = .down := by
  decide +kernel

theorem test_unusableMessage :
    (after (.unusableMessage 0x11#8 0) (ending ⟨0x11#8, 0, 0⟩ [])).ec.counters[24] = 1 := by decide +kernel
theorem test_messageBadCheck :
    (after .messageBadCheck (ending ⟨0x20#8, 0, 1⟩ [0x07#8])).ec.counters[24] = 1 ∧
      (after .messageBadCheck downState).ec.counters[24] = 0 := by decide +kernel
theorem test_linkHeaderRejected :
    (after (.linkHeaderRejected [0xA5#8, 0x50, 0xA5, 0, 0, 0]) (up .designated)).cl.receiver = .header [0xA5#8, 0, 0, 0] := by
  decide +kernel

/-- Section 3.10, step 8, and R114: the delivery queue is emptied with DELIVERY_DROP, the BTQ with ROLE_DISCARD. -/
theorem test_linkHoldExpiry :
    let s := { up .designated with
      bq.deliveryQ := [⟨60, .station 5, false, 2, 0x0A05#16, 0x0224#16, 1, 9⟩], bq.normalQ := [record 61 false 0] }
    (after (.linkHoldExpiry 5) s).ec.counters[10] = 1 ∧ (after (.linkHoldExpiry 5) s).ec.counters[15] = 1 := by decide +kernel

theorem test_idleTimerExpiry :
    (after .idleTimerExpiry { up .designated with cl.tx := none }).cl.tx = some .idle := by decide +kernel

/-- A DATA_IN going out of buffer 60. -/
def delivering : State :=
  { up .designated with
    bq.deliverySlot := some ⟨60, .station 5, false, 2, 0x0A05#16, 0x0224#16, 1, 9⟩
    cl.tx := some (.dataIn 1 [] false), cl.acceptTotal := 3 }

theorem test_dataInEnd :
    (after .dataInEnd delivering).ec.counters[9] = 1 ∧ (after .dataInEnd delivering).cl.deliveredTotal = 1 := by decide +kernel

/-- A response of the engine going out. -/
def responding (restart : Bool) : State :=
  { up .designated with
    cl.tx := some (.response ⟨0x3C#8, [0, 10], true⟩), me := ⟨[⟨0x3D#8, [7]⟩], some ⟨0x3C#8, [10]⟩, .waitSend restart, false⟩ }

theorem test_responseEnd :
    (after (.responseEnd 6) (responding false)).me.current = some ⟨0x3D#8, [7]⟩ ∧
      (after (.responseEnd 6) (responding true)).cf.opState = .loading := by decide +kernel

theorem test_statusEnd :
    (after .statusEnd { up .designated with cl.tx := some (.status .loading .disabled none true), cl.restartWindow := true }).cl.restartWindow
      = false := by decide +kernel

theorem test_messageEnd : (after .messageEnd (up .designated)).cl.tx = none := by decide +kernel

/-! ## Management requests -/

/-- The bucket of section 1.8 at its end, which section 7.6 reads. -/
def bucket15 : Bucket := bucket11.set 1 (dyn 0x0322#16 3 (.station 12) 0)

theorem test_readBucket :
    answers (after .readBucket (withBucket 0x21 bucket15 (asked [0x02#8, 0x21]))) =
      [[0x00#8, 0x02, 0x21, 4, 0, 0x21, 0x00, 1, 0x40, 1, 0, 1, 0x03, 0x22, 3, 0x0C, 0, 0, 2, 0x02, 0x23, 2, 0x09, 1, 0,
        3, 0x10, 0x31, 2, 0x40, 1, 0]] := by decide +kernel

theorem test_readEntry :
    answers (after .readEntry (withBucket 0x21 bucket15 (asked [0x01#8, 0x03, 0x22]))) =
        [[0x00#8, 0x01, 1, 0x03, 0x22, 3, 0x0C, 0, 0]] ∧
      answers (after .readEntry (withBucket 0x21 bucket15 (asked [0x01#8, 0xFF, 0xFF]))) = [[1#8, 1]] := by decide +kernel

/-- Section 1.8, steps 11 and 12. -/
theorem test_addStatic :
    (after .addStatic (withBucket 0x21 bucket8 (asked [0x03#8, 0x10, 0x31, 2, 0x40]))).lt[0x21][3] = sta 0x1031#16 2 .here ∧
      answers (after .addStatic (withBucket 0x21 bucket11 (asked [0x03#8, 0x01, 0x20, 2, 0x40]))) = [[2#8, 3]] := by decide +kernel

/-- Section 1.8, step 14. -/
theorem test_remove :
    (after .remove (withBucket 0x21 bucket11 (asked [0x04#8, 0x40, 0x61]))).lt[0x21] = bucket11.set 1 none ∧
      answers (after .remove (withBucket 0x21 bucket11 (asked [0x04#8, 0x40, 0x61]))) = [[0#8, 4, 1]] := by decide +kernel

/-- Section 10.10, step 1. -/
theorem test_flush :
    (after .flush (asked [0x05#8, 1, 9])).tw.job = some (.managementFlush (.place (.station 9)) 0) ∧
      (after .flush (asked [0x05#8, 1, 9])).me.stage = .waitWalk := by decide +kernel

theorem test_readPeer :
    answers (after .readPeer { asked [0x06#8, 12] with pt.peers := peers39 }) =
        [[0#8, 6, 12, 12, 3, 8, 0x02, 10, 2, 1]] ∧
      answers (after .readPeer (asked [0x06#8, 5])) = [[3#8, 6]] := by decide +kernel

theorem test_readStatus :
    answers (after .readStatus (asked [0x07#8])) =
      [[0#8, 7, 3, 3, 0xFF, 5, 5, 31, 56, 8, 0, 0, 0, 0, 0, 0, 0, 0]] := by decide +kernel

/-- R171: a range past counter 27 is BAD_ARGUMENT; clear 1 clears the range read. -/
theorem test_readCounters :
    let s := { asked [0x08#8, 27, 1, 1] with ec.counters := Vector.replicate 28 0x01020304#32 }
    answers (after .readCounters s) = [[0#8, 8, 27, 1, 1, 2, 3, 4]] ∧ (after .readCounters s).ec.counters[27] = 0 ∧
      answers (after .readCounters (asked [0x08#8, 27, 2, 0])) = [[3#8, 8]] := by decide +kernel

theorem test_ackEvent :
    let s := { asked [0x09#8, 0x81] with
      ec := ⟨[⟨.dupStation, 5#16, 56, 4⟩], ⟨true, false, false, false⟩, 57, 0, Vector.replicate 28 0⟩ }
    (after .ackEvent s).ec.queue = [] ∧ (after .ackEvent s).ec.lost = 4 := by decide +kernel

theorem test_restart : (after (.restart 5) (asked [0x0A#8])).me.stage = .waitSend true := by decide +kernel
theorem test_badRequest : answers (after .badRequest (asked [0x02#8])) = [[4#8, 2]] := by decide +kernel

/-! ## The table walker -/

theorem test_sweepTimerExpiry : (after .sweepTimerExpiry (up .designated)).tw.job = some .sweep := by decide +kernel

/-- Section 1.8, step 3, and R34: an entry at AGE_LIMIT is removed with AGED_OUT. -/
theorem test_bucketVisit_sweep :
    let s (age : Nat) := { withBucket 0x21 #v[sta 0x2100#16 1 .here, dyn 0x0120#16 2 .here age, none, none] (up .designated) with
      tw := ⟨some .sweep, 0x21, [], none, false, .running 30⟩ }
    (after .bucketVisit (s 0)).lt[0x21] = #v[sta 0x2100#16 1 .here, dyn 0x0120#16 2 .here 1, none, none] ∧
      (after .bucketVisit (s 4)).ec.counters[23] = 1 := by decide +kernel

/-- Section 10.10, step 8: the last bucket's visit answers the removed count, and the LOCAL flush starts. -/
theorem test_bucketVisit_last :
    let s := { asked [0x05#8, 1, 9] with
      me.stage := .waitWalk, tw := ⟨some (.managementFlush (.place (.station 9)) 3), 255, [.here], none, false, .running 30⟩ }
    answers (after .bucketVisit s) = [[0#8, 5, 0, 3]] ∧ (after .bucketVisit s).tw.job = some (.internalFlush [.here]) := by
  decide +kernel

/-- R164, R166: a request is judged by the state in which it was taken, LOADING, though RUNNING stands at its execution. -/
theorem test_taken_in_loading :
    let s := asked [0x01#8, 0x03, 0x22]
    answers (after .readEntry { s with me.stage := .taken .loading }) = [[6#8, 1]] := by decide +kernel

/-! ## Learning and forwarding -/

/-- Section 1.8, steps 7 and 8: a move with LOCAL_DISPLACED; the victim is way 3. -/
theorem test_learn_moves_and_evicts :
    let s := (withBucket 0x21 (bucket7.set 1 (dyn 0x0120#16 2 .here 2)) (up .designated)).learnClaim 0x0120#16 4 (.station 14)
    s.lt[0x21] = bucket7 ∧ s.ec.counters[20] = 1 ∧ s.ec.queue = [⟨.localDisplaced, 0x0120#16, 0, 0⟩] ∧
      ((withBucket 0x21 bucket7 (up .designated)).learnClaim 0x1031#16 2 (.station 9)).lt[0x21] = bucket8 := by decide +kernel

/-- Section 1.8, steps 9, 10 and 12: a static conflict, the lowest way on a tie, a refusal. -/
theorem test_learn_static_tie_refused :
    ((withBucket 0x21 bucket8 (up .designated)).learnClaim 0x2100#16 1 (.station 9)).ec.counters[22] = 1 ∧
      ((withBucket 0x21 bucket8 (up .designated)).learnClaim 0x4061#16 2 (.station 12)).lt[0x21][1] = dyn 0x4061#16 2 (.station 12) 0 ∧
      ((withBucket 0x21 bucket11 (up .designated)).learnClaim 0x0322#16 3 (.station 12)).ec.counters[21] = 1 := by decide +kernel

/-- The frames of section 3.9, as the engine holds them. -/
def frameTo (dst : Eid) (z : Zone) (urgent : Bool) : CardFrame := ⟨dst, 0x0A05#16, z, urgent, 1⟩

/-- A card decision in buffer 0 at a stage, with the peers of section 3.9. -/
def deciding (stage : CardStage) : State :=
  let s := up .designated
  { s with
    bq.reserve := s.bq.reserve.map fun r => if r.num = 0 then ⟨0, .held⟩ else r
    pt.peers := peers39, fe.card := [⟨some 0, stage⟩] }

theorem test_learn_card :
    (after (.learn .card 0) (deciding (.learn (frameTo 0x0223#16 2 false)))).lt[0x0F][0] = dyn 0x0A05#16 2 .here 0 ∧
      (after (.learn .card 0) (deciding (.learn (frameTo 0x0223#16 2 false)))).fe.card =
        [⟨some 0, .lookup (frameTo 0x0223#16 2 false)⟩] := by decide +kernel

/-- Section 3.9, frames a, c (an absent station floods), d (pruned) and f (filtered), each as many reads as it makes (R53). -/
theorem test_lookup :
    let on (reads : Nat) (e : Option Entry) (f : CardFrame) : State :=
      Nat.repeat (after (.lookup .card 0)) reads (withBucket (bucketOf f.dstEid) #v[e, none, none, none] (deciding (.lookup f)))
    (on 2 (dyn 0x0223#16 2 (.station 9) 0) (frameTo 0x0223#16 2 false)).fe.card =
        [⟨some 0, .handover (frameTo 0x0223#16 2 false) (.station 9)⟩] ∧
      (on 3 (dyn 0x3344#16 3 (.station 17) 0) (frameTo 0x3344#16 3 false)).fe.card =
        [⟨some 0, .handover (frameTo 0x3344#16 3 false) .all⟩] ∧
      (on 2 none (frameTo 0x7777#16 0 false)).ec.counters[18] = 1 ∧
      (on 1 (sta 0x2100#16 1 .here) (frameTo 0x2100#16 1 false)).ec.counters[17] = 1 := by decide +kernel

/-- R53: station 17 is absent at the read of step 6 and counts, DESIGNATED with zone 7, at the flood's read of step 7. -/
theorem test_lookup_between_reads :
    let s := withBucket 0x77 #v[dyn 0x3344#16 7 (.station 17) 0, none, none, none] (deciding (.lookup (frameTo 0x3344#16 7 false)))
    let missed := Nat.repeat (after (.lookup .card 0)) 2 s
    (after (.lookup .card 0) { missed with pt.peers := missed.pt.peers.set 17 (some (peer 12 .designated 8 0x80#8 0)) }).fe.card =
        [⟨some 0, .handover (frameTo 0x3344#16 7 false) .all⟩] ∧
      (after (.lookup .card 0) missed).ec.counters[18] = 1 := by decide +kernel

theorem test_btqHandover :
    (after .btqHandover (deciding (.handover (frameTo 0xFFFF#16 1 true) .all))).bq.urgentQ =
      [⟨0, .all, true, 1, 0xFFFF#16, 0x0A05#16, 1, 0⟩] := by decide +kernel

/-- Section 3.10, frame 1: buffer 8 is popped, leaving 55. -/
theorem test_deliveryHandover :
    let s := { up .designated with fe.backplane := [⟨false, .handover ⟨9, .station 5, false, 2, 0x0A05#16, 0x0224#16, [0xAB#8]⟩⟩] }
    (after .deliveryHandover s).bq.deliveryQ = [⟨8, .station 5, false, 2, 0x0A05#16, 0x0224#16, 1, 9⟩] ∧
      (after .deliveryHandover s).bq.free.length = 55 := by decide +kernel

/-- R61: a frame whose decision the warm restart overtook ends with ROLE_DISCARD, whatever the role is by then. -/
theorem test_deliveryHandover_overtaken :
    let f : DataFrame := ⟨9, .station 5, false, 2, 0x0A05#16, 0x0224#16, [0xAB#8]⟩
    let restarted := (State.warmRestart { up .designated with fe.backplane := [⟨false, .handover f⟩] } 5).fe
    restarted.backplane = [⟨true, .handover f⟩] ∧
      (after .deliveryHandover { up .designated with fe := restarted }).ec.counters[15] = 1 := by decide +kernel

/-! ## The step -/

/-- The front command is taken, the rest stays, and with the ladder BUSY an empty queue idles. -/
theorem test_step :
    (match step { State.reset with pending := [.idle, .jamSeen] } with | .next t => t.pending | _ => []) = [.jamSeen] ∧
      (match step State.reset with | .next t => t.pending | _ => [.idle]) = [] := by decide +kernel

/-- R134, R144: a slot passes inside the gap, and SYNCING entered in the gap's last slot counts that one slot alone. -/
theorem test_passSlot :
    (match step { syncing with bp.ladder := .gap 2, bp.quietCount := 0 } with
      | .next t => some (t.bp.ladder, t.bp.quietCount)
      | _ => none) = some (.gap 1, 1) ∧
      (after .rungStart { syncing with bp.ladder := .gap 1, bp.quietCount := 0 }).bp.quietCount = 1 := by decide +kernel

/-! ## Witnesses: a state and operands for the hypotheses of each statement -/

/-- Station 5 DESIGNATED with its transmitter idle. -/
def quiet : State := { up .designated with cl.tx := none }

theorem witness_StepTakesFrontCommand :
    ({ State.reset with pending := [.idle, .jamSeen] } : State).pending = .idle :: [.jamSeen] ∧ State.reset.pending = [] ∧
      State.reset.bp.ladder ≠ .gap 2 ∧ ({ State.reset with resetAsserted := true } : State).pending = [] ∧
      (∀ left ∈ [1, 3], ({ syncing with bp.ladder := .gap left } : State).bp.ladder ≠ .gap 2) ∧
      ∀ op ∈ [OpState.running, .syncing], ∀ quiet ∈ [0, 64, 65],
        let s := { syncing with cf.opState := op, bp.ladder := .gap 2, bp.quietCount := quiet };
        s.pending = [] ∧ s.resetAsserted = false ∧ s.bp.ladder = .gap 2 ∧ s.cf.opState = op := by
  decide +kernel

theorem witness_ResetRestartsThePart :
    ({ State.reset with resetAsserted := true } : State).resetAsserted = true ∧ (.idle : Instr) ≠ .deviceReset ∧
      ∀ m, (.idle : Instr) ≠ .resetRelease m := by decide +kernel

/-- A response of the engine and a notification. -/
def response0 : Response := ⟨0x3C#8, [0, 10], true⟩
/-- A notification waiting. -/
def record0 : EventRecord := ⟨.peerUp, 9#16, 0, 0⟩
/-- A delivery record in buffer 60. -/
def rx60 : RxRecord := ⟨60, .station 5, false, 2, 0x0A05#16, 0x0224#16, 1, 9⟩

theorem witness_ArbiterOrder :
    (up .designated).cl.tx ≠ none ∧ downState.cl.link = .down ∧ quiet.cl.tx = none ∧ quiet.cl.link = .up ∧
      (let s := { quiet with cl.statusPending := some true }; s.cl.tx = none ∧ s.cl.link = .up ∧ s.cl.statusPending = some true) ∧
      (let s := { quiet with cl.grantTotal := 1 };
        s.cl.tx = none ∧ s.cl.link = .up ∧ s.cl.statusPending = none ∧ s.cl.grantTotal ≠ s.cl.lastCredit) ∧
      (let s := { quiet with cl.responses := [response0] };
        s.cl.tx = none ∧ s.cl.link = .up ∧ s.cl.statusPending = none ∧ s.cl.grantTotal = s.cl.lastCredit ∧
          s.cl.responses = response0 :: []) ∧
      (let s := { quiet with ec.queue := [record0] };
        s.cl.tx = none ∧ s.cl.link = .up ∧ s.cl.statusPending = none ∧ s.cl.grantTotal = s.cl.lastCredit ∧ s.cl.responses = [] ∧
          s.ec.queue = record0 :: []) ∧
      (let s := { quiet with bq.deliveryQ := [rx60], cl.acceptTotal := 1 };
        s.cl.tx = none ∧ s.cl.link = .up ∧ s.cl.statusPending = none ∧ s.cl.grantTotal = s.cl.lastCredit ∧ s.cl.responses = [] ∧
          s.ec.queue = [] ∧ s.bq.deliveryQ = rx60 :: [] ∧ s.bq.deliverySlot = none ∧ s.cl.acceptTotal ≠ s.cl.deliveredTotal) ∧
      ∀ s ∈ [quiet, { quiet with bq.deliveryQ := [rx60] }, { quiet with bq.deliveryQ := [rx60], bq.deliverySlot := some rx60 },
          { quiet with cl.idleTimer := .running 0 }],
        s.cl.tx = none ∧ s.cl.link = .up ∧ s.cl.statusPending = none ∧ s.cl.grantTotal = s.cl.lastCredit ∧ s.cl.responses = [] ∧
          s.ec.queue = [] ∧ (s.bq.deliveryQ = [] ∨ s.bq.deliverySlot ≠ none ∨ s.cl.acceptTotal = s.cl.deliveredTotal) := by
  decide +kernel

theorem witness_PushRule :
    (let s := { up .designated with bq.reserve := (up .designated).bq.reserve.drop 1 };
      s.cf.config = some cfg ∧ s.cl.link = .up ∧ s.cf.opState = .running ∧ s.eu.role ≠ .disabled ∧
        s.bq.reserve.length < cfg.localCredits) ∧
      downState.cf.config = some cfg ∧ downState.cl.link = .down ∧ syncing.cf.config = some cfg ∧ syncing.cf.opState ≠ .running ∧
      (up .disabled).cf.config = some cfg ∧ (up .disabled).eu.role = .disabled ∧
      (up .designated).cf.config = some cfg ∧ cfg.localCredits ≤ (up .designated).bq.reserve.length := by decide +kernel

/-- An event unit with a queue. -/
def unit (q : List EventRecord) : EventUnit := { EventUnit.reset with queue := q }

theorem witness_NotificationQueued :
    (unit (List.replicate 15 record0)).queue.length < 16 ∧ 16 ≤ (unit (List.replicate 16 record0)).queue.length := by decide +kernel

/-- A record of an alarm. -/
def alarm0 : EventRecord := ⟨.linkProtocol, 0x0300#16, 0, 0⟩

theorem witness_AlarmRaised :
    EventKind.dupStation.isAlarm = true ∧ (AlarmSet.none.put .dupStation true).has .dupStation = true ∧
      (unit (List.replicate 15 record0)).alarms.has .dupStation = false ∧ (unit (List.replicate 15 record0)).queue.length < 16 ∧
      (let e := unit (alarm0 :: List.replicate 15 record0);
        e.alarms.has .dupStation = false ∧ 16 ≤ e.queue.length ∧ e.queue = [alarm0] ++ record0 :: List.replicate 14 record0 ∧
          (∀ x ∈ [alarm0], x.kind.isAlarm = true) ∧ record0.kind.isAlarm = false) := by decide +kernel

theorem witness_ListeningStarts : (up .disabled).cf.config = some cfg := by decide +kernel

/-- Station 12 in LOADING with an image so far. -/
def readSoFar (image : List Byte) : State := { State.reset with cf := ⟨.loading, 12, none, image⟩ }

theorem witness_ImageIsRead :
    State.reset.resetAsserted = false ∧ State.reset.cf.opState = .loading ∧ State.reset.cf.image = [] ∧
      ((readSoFar (image77.take 12)).cf.image ++ [0x00#8]).length < 14 ∧
      ∀ k ∈ [13, 18],
        let s := readSoFar (image77.take k);
        let image := s.cf.image ++ [image77.getD k 0];
        s.resetAsserted = false ∧ s.cf.opState = .loading ∧ 14 ≤ image.length ∧ image.getD 0 0 = 0xC4#8 ∧
          (image.getD 13 0).toNat ≤ 32 ∧ (image.getD 1 0).toNat = 16 + 4 * (image.getD 13 0).toNat ∧
          image.length < 16 + 4 * (image.getD 13 0).toNat := by decide +kernel

/-- The image with a byte changed and its checksum set to suit, `hi` and `lo` computed outside the model. -/
def image77With (i : Nat) (v hi lo : Byte) : List Byte := ((image77.set i v).set 18 hi).set 19 lo

/-- The image of section 7.7 with `n` static records of bucket 0 and its checksum, computed outside the model. -/
def imageOf (n : Byte) (records : List Byte) (hi lo : Byte) : List Byte :=
  ((image77.take 14).set 1 (16 + 4 * n)).set 13 n ++ records ++ [hi, lo]

/-- Four records of bucket 0: 0x0000, 0x0101, 0x0202 and 0x0303, zone 1, place LOCAL. -/
def four : List Byte := [0#8, 0, 1, 0x40, 1, 1, 1, 0x40, 2, 2, 1, 0x40, 3, 3, 1, 0x40]

/-- The EID of record `k`. -/
def eidAt (image : List Byte) (k : Nat) : Eid := word16 (image.getD (14 + 4 * k) 0) (image.getD (15 + 4 * k) 0)
/-- The bucket of record `k`. -/
def bucketAt (image : List Byte) (k : Nat) : Byte := hiByte (eidAt image k) ^^^ loByte (eidAt image k)
/-- Record `k` has no legal EID, zone or place for station 12. -/
def illAt (image : List Byte) (k : Nat) : Bool :=
  eidAt image k == 0xFFFF#16 || decide (7 < (image.getD (16 + 4 * k) 0).toNat) ||
    (image.getD (17 + 4 * k) 0 != 0x40#8 && decide (31 < (image.getD (17 + 4 * k) 0).toNat)) || image.getD (17 + 4 * k) 0 == 12#8
/-- Record `k` has the EID of an earlier one. -/
def repeatedAt (image : List Byte) (k : Nat) : Bool := (List.range k).any fun j => eidAt image j == eidAt image k
/-- Record `k` is the fifth of its bucket, or a later one. -/
def fifthAt (image : List Byte) (k : Nat) : Bool := decide (4 ≤ (List.range k).countP fun j => bucketAt image j == bucketAt image k)
/-- The image passes checks 1 to 5. -/
def soundFields (image : List Byte) : Bool :=
  image.getD 0 0 == 0xC4#8 && decide ((image.getD 13 0).toNat ≤ 32) && (image.getD 1 0).toNat == 16 + 4 * (image.getD 13 0).toNat &&
    image.length == 16 + 4 * (image.getD 13 0).toNat && wordSum image == 0 &&
    (List.range' 2 11).all fun j => fieldInRange j (image.getD j 0)

theorem witness_ImageRejected :
    (let s := readSoFar (image77.take 1); s.resetAsserted = false ∧ s.cf.opState = .loading ∧ s.cf.image ≠ []) ∧
      (let image := (image77.set 0 0xC5#8).take 14; image.length = 14 ∧ image.getD 0 0 ≠ 0xC4#8) ∧
      (∀ n ∈ [33#8, 2#8],
        let image := (image77.set 13 n).take 14;
        image.length = 14 ∧ image.getD 0 0 = 0xC4#8 ∧
          (32 < (image.getD 13 0).toNat ∨ (image.getD 1 0).toNat ≠ 16 + 4 * (image.getD 13 0).toNat)) ∧
      (∀ image ∈ [image77.set 9 0x0D#8, image77With 9 0x0D#8 0xC0#8 0x6E#8, image77With 2 64#8 0x8C#8 0x76#8, image77With 12 1#8 0xBF#8 0x76#8],
        image.getD 0 0 = 0xC4#8 ∧ (image.getD 13 0).toNat ≤ 32 ∧
          (image.getD 1 0).toNat = 16 + 4 * (image.getD 13 0).toNat ∧ image.length = 16 + 4 * (image.getD 13 0).toNat) ∧
      wordSum (image77.set 9 0x0D#8) ≠ 0 ∧
      (∀ x ∈ [(9, image77With 9 0x0D#8 0xC0#8 0x6E#8), (2, image77With 2 64#8 0x8C#8 0x76#8), (12, image77With 12 1#8 0xBF#8 0x76#8)],
        wordSum x.2 = 0 ∧ 2 ≤ x.1 ∧ x.1 ≤ 12 ∧ fieldInRange x.1 (x.2.getD x.1 0) = false ∧
          ∀ j < x.1, 2 ≤ j → fieldInRange j (x.2.getD j 0) = true) ∧
      -- reasons 5, 6 and 7: the own number, an EID twice, the fifth record of a bucket
      ∀ x ∈ [(image77With 17 0x0C#8 0xC0#8 0xAA#8, 0, true, false, false),
          (imageOf 2 (four.take 4 ++ four.take 4) 0xE0#8 0x31#8, 1, false, true, false),
          (imageOf 5 (four ++ [4#8, 4, 1, 0x40]) 0xD2#8 0x58#8, 4, false, false, true)],
        soundFields x.1 = true ∧ x.2.1 < (x.1.getD 13 0).toNat ∧
          (∀ j < x.2.1, illAt x.1 j = false ∧ repeatedAt x.1 j = false ∧ fifthAt x.1 j = false) ∧
          illAt x.1 x.2.1 = x.2.2.1 ∧ repeatedAt x.1 x.2.1 = x.2.2.2.1 ∧ fifthAt x.1 x.2.1 = x.2.2.2.2 := by decide +kernel

/-- The image of section 7.7, and one with four records of one bucket. -/
theorem witness_ImageAccepted :
    ∀ image ∈ [image77, imageOf 4 four 0xD7#8 0xA1#8],
      (reading image).resetAsserted = false ∧ (reading image).cf.opState = .loading ∧
        (reading image).cf.image ++ [image.getLastD 0] = image ∧ soundFields image = true ∧
        ∀ k < (image.getD 13 0).toNat, illAt image k = false ∧ repeatedAt image k = false ∧ fifthAt image k = false := by
  decide +kernel

/-- Station 5 in SYNCING at a ladder position. -/
def syncingAt (l : Ladder) (quiet : Nat) : State := { syncing with bp := { syncing.bp with ladder := l, quietCount := quiet } }
/-- Station 5 RUNNING and DESIGNATED at a ladder position, with P = 9, so that r is 27. -/
def runningAt (l : Ladder) : State :=
  let s := up .designated;
  { s with bp := { s.bp with pointer := 9, ladder := l } }

theorem witness_LadderMoves :
    (∀ a ∈ [Assembly.empty, .frame floodHeader, .waitIdle],
      (hearing a).resetAsserted = false ∧ (hearing a).bp.ladder = .busy ∧ (hearing a).bp.transmitter = .off) ∧
      (up .designated).resetAsserted = false ∧ (up .designated).bp.medium = .idle ∧
      (∀ medium ∈ [Medium.carrier, .collision], ({ hearing .empty with bp.medium := medium } : State).bp.medium = medium) ∧
      (∀ l ∈ [Ladder.gap 1, .gap 2, .rung 0, .rung 63], ∀ quiet ∈ [0, 64, 65],
        let s := syncingAt l quiet;
        s.resetAsserted = false ∧ s.bp.transmitter = .off ∧ s.bp.ladder = l ∧ s.cf.opState = .syncing ∧
          (s.bp.quietCount < 65 ∨ 65 ≤ s.bp.quietCount)) ∧
      (∀ x ∈ [(Ladder.gap 2, (0 : Fin 64)), (.rung 63, 0), (.rung 26, 27), (.rung 58, 59)],
        (runningAt x.1).bp.transmitter = .off ∧ (runningAt x.1).cf.opState ≠ .syncing ∧
          (x.1 = .gap 2 ∧ x.2 = 0 ∨ ∃ j, x.1 = .rung j ∧ x.2 = j + 1) ∧
          let r := (runningAt x.1).cf.station - (runningAt x.1).bp.pointer - 1;
          ((x.2.val ≠ r.val ∧ x.2.val ≠ 32 + r.val) ∨
            ((runningAt x.1).eu.announceHolder = none ∧ (runningAt x.1).eu.takeoverHolder = none ∧
              (runningAt x.1).bq.txSlot = .empty ∧ (runningAt x.1).bq.urgentQ = [] ∧ (runningAt x.1).bq.normalQ = []))) := by
  decide +kernel

/-- The own ANNOUNCE and TAKEOVER of station 5. -/
def announce5 : Announce := ⟨5, .designated, 8, 0x0F#8, 10⟩
/-- The own TAKEOVER of station 5. -/
def takeover5 : Takeover := ⟨5, none⟩

theorem witness_RungSends :
    (∀ x ∈ [(Ladder.rung 26, (27 : Fin 64)), (.rung 58, 59)],
      let s := runningAt x.1;
      s.resetAsserted = false ∧ s.bp.transmitter = .off ∧ s.cf.opState = .running ∧ s.bp.sync = .synced ∧ s.bp.medium = .idle ∧
        (∃ j, s.bp.ladder = .rung j ∧ x.2 = j + 1) ∧
        let r := s.cf.station - s.bp.pointer - 1;
        (x.2.val = r.val ∨ x.2.val = 32 + r.val)) ∧
      (∃ n, (runningAt (.gap 2)).bp.ladder = .gap n) ∧
      ({ runningAt (.rung 26) with eu.takeoverHolder := some takeover5 } : State).eu.takeoverHolder = some takeover5 ∧
      (let s := { runningAt (.rung 58) with eu.announceHolder := some announce5 };
        s.eu.takeoverHolder = none ∧ s.eu.announceHolder = some announce5) ∧
      (∀ urgent,
         let s := { runningAt (.rung 26) with bq.txSlot := .waiting (record 60 urgent 1) };
        s.eu.takeoverHolder = none ∧ s.eu.announceHolder = none ∧ s.bq.txSlot = .waiting (record 60 urgent 1)) ∧
      (let s := { runningAt (.rung 26) with bq.urgentQ := [record 60 true 0] };
        s.eu.takeoverHolder = none ∧ s.eu.announceHolder = none ∧ s.bq.txSlot = .empty ∧ s.bq.urgentQ = record 60 true 0 :: []) ∧
      (let s := { runningAt (.rung 58) with bq.normalQ := [record 60 false 0] };
        s.eu.takeoverHolder = none ∧ s.eu.announceHolder = none ∧ s.bq.txSlot = .empty ∧ s.bq.urgentQ = [] ∧
          s.bq.normalQ = record 60 false 0 :: []) := by
  refine ⟨by decide +kernel, ⟨2, rfl⟩, by decide +kernel, by decide +kernel, by decide +kernel, by decide +kernel, by decide +kernel⟩

theorem witness_QuietCountGainsSync :
    ∀ quiet ∈ [64, 65], ∀ cl ∈ [CardLink.reset, syncing.cl],
      let s := { syncing with cl := cl, bp.quietCount := quiet };
      s.resetAsserted = false ∧ s.cf.opState = .syncing ∧ s.bp.medium = .idle ∧ s.cf.config = some cfg ∧
        (s.cl.link = .down ∨ s.cl.link = .up) ∧ (s.bp.quietCount < 65 ↔ quiet = 64) := by decide +kernel

theorem witness_OwnFrameIsSent :
    (let s := driving .frame .empty (some ⟨.takeover takeover5, false⟩);
      s.resetAsserted = false ∧ s.bp.transmitter = .frame ∧ s.bp.inFlight = some ⟨.takeover takeover5, false⟩) ∧
      (let s := driving .frame .empty (some ⟨.announce ⟨5, .designated, 8, 0x0F#8, 10⟩, false⟩);
        s.resetAsserted = false ∧ s.bp.transmitter = .frame ∧
          s.bp.inFlight = some ⟨.announce ⟨5, .designated, 8, 0x0F#8, 10⟩, false⟩) ∧
      ∀ marked,
        let s := driving .frame (.onMedium (record 60 false 0) marked) none;
        s.resetAsserted = false ∧ s.bp.transmitter = .frame ∧ s.bp.inFlight = none ∧
          s.bq.txSlot = .onMedium (record 60 false 0) marked := by decide +kernel

theorem witness_JamEnds :
    (let s := driving .jam .empty (some ⟨.announce announce5, false⟩);
      s.resetAsserted = false ∧ s.bp.transmitter = .jam ∧ s.bp.inFlight = some ⟨.announce announce5, false⟩ ∧
        s.eu.announceHolder = none) ∧
      (let s := driving .jam .empty (some ⟨.takeover takeover5, false⟩);
        s.bp.inFlight = some ⟨.takeover takeover5, false⟩ ∧ s.eu.takeoverHolder = none) ∧
      (driving .jam .empty (some ⟨.takeover takeover5, true⟩)).bp.inFlight = some ⟨.takeover takeover5, true⟩ ∧
      ({ driving .jam .empty (some ⟨.announce announce5, false⟩) with eu.announceHolder := some announce5 } : State).eu.announceHolder
        ≠ none ∧
      (∀ n ∈ [0, 14, 15],
         let s := driving .jam (.onMedium (record 60 false n) false) none;
        s.resetAsserted = false ∧ s.bp.transmitter = .jam ∧ s.bp.inFlight = none ∧
          s.bq.txSlot = .onMedium (record 60 false n) false ∧ ((record 60 false n).attempts < 15 ∨ (record 60 false n).attempts = 15)) ∧
      (driving .jam (.onMedium (record 60 false 0) true) none).bq.txSlot = .onMedium (record 60 false 0) true := by decide +kernel

theorem witness_JamIsSeen :
    ∀ op ∈ [OpState.running, .silent, .syncing, .loading, .configFault],
      let s := { hearing .empty with cf.opState := op };
      s.resetAsserted = false ∧ s.bp.transmitter = .off ∧ s.bp.medium ≠ .collision ∧ s.cf.opState = op := by decide +kernel

theorem witness_HeaderArrives :
    ∀ op ∈ [OpState.running, .silent, .syncing],
      let s := { hearing .empty with cf.opState := op };
      s.resetAsserted = false ∧ s.bp.transmitter = .off ∧ s.bp.assembly = .empty ∧ s.bp.medium = .carrier ∧
        s.cf.opState ≠ .loading ∧ s.cf.opState ≠ .configFault ∧ crc8 ((header9.set 8 0).toList.take 8) ≠ (header9.set 8 0)[8] ∧
        crc8 (header9.toList.take 8) = header9[8] ∧ frameSource header9 ≠ s.cf.station ∧ s.cf.opState = op := by decide +kernel

theorem witness_DuplicateGoesSilent :
    (∀ role ∈ [Role.disabled, .listening, .standby, .designated],
      let s := { hearing .empty with eu.role := role };
      s.resetAsserted = false ∧ s.bp.transmitter = .off ∧ s.bp.assembly = .empty ∧ s.bp.medium = .carrier ∧ s.cf.config = some cfg ∧
        s.cf.opState = .running ∧ crc8 (floodHeader.toList.take 8) = floodHeader[8] ∧ frameSource floodHeader = s.cf.station ∧
        s.eu.role = role) ∧
      ∀ cl ∈ [CardLink.reset, syncing.cl],
        let s := { syncing with cl := cl, bp := { (hearing .empty).bp with sync := .seeking } };
        s.resetAsserted = false ∧ s.bp.transmitter = .off ∧ s.bp.assembly = .empty ∧ s.bp.medium = .carrier ∧ s.cf.config = some cfg ∧
          frameSource floodHeader = s.cf.station ∧ s.cf.opState = .syncing ∧ s.cl.link = cl.link := by decide +kernel

/-- The frame check of a frame stands and is right. -/
def checkedFrame (h : Vector Byte 9) (rest : List Byte) : Bool :=
  decide (frameLength h + 2 ≤ rest.length) &&
    (rest.drop (frameLength h)).take 2 ==
      [hiByte (crc16 (h.toList ++ rest.take (frameLength h))), loByte (crc16 (h.toList ++ rest.take (frameLength h)))]

/-- DATA to station 40, a frame of kind 3, and a good DATA frame with the own number 5; check bytes computed outside the model. -/
def headerTo40 : Vector Byte 9 := #v[0x08#8, 0x01, 0x09, 0x28, 0x0A, 0x05, 0x02, 0x24, 0xD6]
/-- A frame of kind 3. -/
def headerKind3 : Vector Byte 9 := #v[0xC0#8, 0x00, 0x09, 0x05, 0, 0, 0, 0, 0xE8]
/-- A DATA frame of station 5. -/
def headerFrom5 : Vector Byte 9 := #v[0x08#8, 0x01, 0x05, 0x09, 0x0A, 0x05, 0x02, 0x24, 0x3B]
/-- An ANNOUNCE of station 5. -/
def announceFrom5 : Vector Byte 9 := #v[0x60#8, 0x06, 0x05, 0x3F, 0, 0, 0, 0, 0x95]
/-- A TAKEOVER of station 5. -/
def takeoverFrom5 : Vector Byte 9 := #v[0xA0#8, 0x02, 0x05, 0x3F, 0, 0, 0, 0, 0x83]
/-- A TAKEOVER of station 14. -/
def takeover14 : Vector Byte 9 := #v[0xA0#8, 0x02, 0x0E, 0x3F, 0, 0, 0, 0, 0xB7]

theorem witness_FrameIsClassed :
    (∀ h, (hearing (.frame h)).resetAsserted = false ∧ (hearing (.frame h)).bp.assembly = .frame h) ∧
      checkedFrame header9 [0xAB#8, 0xD1] = false ∧ checkedFrame header9 [0xAB#8, 0xD1, 0x2E] = false ∧
      (checkedFrame headerKind3 [0xEC#8, 0xF2] = true ∧ frameKind headerKind3 = 3) ∧
      (checkedFrame headerTo40 [0xAB#8, 0x4D, 0x38] = true ∧ frameKind headerTo40 = 0 ∧ 31 < frameDestField headerTo40 ∧
        frameDestField headerTo40 < 63) ∧
      (checkedFrame announce14 [0x0C#8, 0x02, 0x14, 0x0E, 0x14, 0x00, 0x0B, 0x75] = true ∧ frameKind announce14 = 1 ∧
        announceOfBody [0x0C#8, 0x02, 0x14, 0x0E, 0x14, 0x00] = none) ∧
      (checkedFrame headerFrom5 [0xAB#8, 0xEC, 0xF6] = true ∧ frameKind headerFrom5 = 0 ∧ 1 ≤ frameLength headerFrom5 ∧
        frameLength headerFrom5 ≤ 256 ∧ frameDestField headerFrom5 < 32 ∧ frameSrcEid headerFrom5 ≠ 0xFFFF#16 ∧
        frameSource headerFrom5 = 5) ∧
      (checkedFrame announceFrom5 [0x05#8, 0x03, 0x08, 0x0F, 0x0A, 0x00, 0xF6, 0xAB] = true ∧ frameKind announceFrom5 = 1 ∧
        announceOfBody [0x05#8, 0x03, 0x08, 0x0F, 0x0A, 0x00] ≠ none ∧ frameSource announceFrom5 = 5) ∧
      (checkedFrame takeoverFrom5 [0x05#8, 0xFF, 0x42, 0x88] = true ∧ frameKind takeoverFrom5 = 2 ∧
        takeoverOfBody [0x05#8, 0xFF] ≠ none ∧ frameSource takeoverFrom5 = 5) := by
  refine ⟨fun h => ⟨rfl, rfl⟩, ?_⟩
  decide +kernel

/-- A DATA frame of station 9 to ALL with destination BROADCAST and zone 3 (section 3.10, frame 2). -/
def headerAll : Vector Byte 9 := #v[0x0C#8, 0x01, 0x09, 0x3F, 0xFF, 0xFF, 0x02, 0x24, 0x27]

/-- The same to ALL with destination 0x0A05 (section 3.10, frame 5, from 9). -/
def headerAllKnown : Vector Byte 9 := #v[0x0C#8, 0x01, 0x09, 0x3F, 0x0A, 0x05, 0x02, 0x24, 0x81]

/-- Frames whose plan is, in DESIGNATED, to deliver, to deliver, and to look up; in STANDBY it is to let go. -/
theorem witness_GoodDataFrameIsTaken :
    (∀ op ∈ [OpState.running, .silent, .syncing], ∀ learn, ∀ role ∈ [Role.designated, .standby],
      ∀ x ∈ [(header9, [0xAB#8, 0xD1, 0x2F]), (headerAll, [0xAB#8, 0x45, 0x87]), (headerAllKnown, [0xAB#8, 0x59, 0x1A])],
        let s := { hearing (.frame x.1) with
          cf := ⟨op, 5, some { cfg with learn := learn }, []⟩, eu := { (up role).eu with role := role } };
        s.resetAsserted = false ∧ s.bp.assembly = .frame x.1 ∧ s.cf.config = some { cfg with learn := learn } ∧
          checkedFrame x.1 x.2 = true ∧ frameKind x.1 = 0 ∧ 1 ≤ frameLength x.1 ∧ frameLength x.1 ≤ 256 ∧
          (frameDestField x.1 = (5 : Station).val ∨ frameDestField x.1 = 63) ∧
          frameSrcEid x.1 ≠ 0xFFFF#16 ∧ frameSource x.1 ≠ s.cf.station ∧
          s.fe.backplane.head?.any BackplaneDecision.isOver = false ∧ s.cf.opState = op ∧ s.eu.role = role ∧
          hasZone cfg.zones (frameZone x.1) = true) ∧
      frameDstEid headerAll = 0xFFFF#16 ∧ frameDestField headerAllKnown = 63 ∧ frameDstEid headerAllKnown = 0x0A05#16 := by
  decide +kernel

theorem witness_AnnounceIsTaken :
    (∀ op ∈ [OpState.syncing, .running, .silent],
      let s := { hearing (.frame announce14) with cf.opState := op };
      s.resetAsserted = false ∧ s.bp.assembly = .frame announce14 ∧ s.cf.config = some cfg ∧ s.cf.opState = op) ∧
      checkedFrame announce14 [0x0C#8, 0x02, 0x0A, 0x0E, 0x14, 0x7E, 0x2D, 0xD1] = true ∧ frameKind announce14 = 1 ∧
      announceOfBody [0x0C#8, 0x02, 0x0A, 0x0E, 0x14, 0x7E] = some ⟨12, .standby, 10, 0x0E#8, 20⟩ ∧
      frameSource announce14 ≠ (5 : Station) ∧ (hearing (.frame announce14)).pt.peers[(14 : Station)] = none ∧
      ({ hearing (.frame announce14) with pt.peers := peers39 } : State).pt.peers[(14 : Station)] =
        some (peer 12 .standby 8 0x0E#8 0) := by decide +kernel

theorem witness_TakeoverIsTaken :
    (∀ op ∈ [OpState.syncing, .running, .silent],
      let s := { hearing (.frame takeover14) with cf.opState := op, pt.peers := peers39 };
      s.resetAsserted = false ∧ s.bp.assembly = .frame takeover14 ∧ s.cf.config = some cfg ∧ s.cf.opState = op ∧
        s.pt.peers[(14 : Station)] = some (peer 12 .standby 8 0x0E#8 0)) ∧
      checkedFrame takeover14 [0x0C#8, 0x0C, 0x3A, 0xB2] = true ∧ frameKind takeover14 = 2 ∧
      takeoverOfBody [0x0C#8, 0x0C] = some ⟨12, some 12⟩ ∧ frameSource takeover14 = 14 ∧ (14 : Station) ≠ 5 ∧
      (hearing (.frame takeover14)).pt.peers[(14 : Station)] = none := by decide +kernel

/-- A station in a role with the peers given. -/
def among (role : Role) (l : List (Station × Peer)) : State := { up role with pt.peers := peersOf l }
/-- The own station, of preference 8, outranks the station. -/
abbrev outranks (s : State) (m : Station) (q : Peer) : Prop :=
  q.preference < cfg.preference ∨ (q.preference = cfg.preference ∧ s.cf.station < m)
/-- A peer of the own segment, of preference 8. -/
def mate (role : Role) : Peer := peer 5 role 8 0x0F#8 0

theorem witness_SegmentDesignatedFollows :
    (up .designated).eu.role = .designated ∧ (up .designated).eu.segmentDesignated ≠ some (up .designated).cf.station ∧
      (let s := among .standby [(9, mate .standby)];
        s.cf.config = some cfg ∧ s.eu.role ≠ .designated ∧ s.eu.segmentDesignated = none ∧
          ∀ n : Station, ∀ p ∈ s.pt.peers[n], ¬(p.segment = cfg.segment ∧ p.role = .designated)) ∧
      (let s := among .standby [(9, mate .designated), (4, mate .designated)];
        s.eu.role ≠ .designated ∧ s.pt.peers[(4 : Station)] = some (mate .designated) ∧
          (mate .designated).segment = cfg.segment ∧ s.eu.segmentDesignated ≠ some 4 ∧
          ∀ m : Station, ∀ q ∈ s.pt.peers[m], m ≠ 4 → q.preference = 8 ∧ (4 : Station) < m) := by decide +kernel

/-- A station of segment 5 with PREEMPT on. -/
def preempting (l : List (Station × Peer)) : State :=
  { among .standby l with cf.config := some { cfg with preempt := true } }

theorem witness_RankDecides :
    (up .disabled).eu.role = .disabled ∧ (up .listening).eu.role = .listening ∧
      (let s := among .standby [(9, mate .standby)];
        s.cf.config = some cfg ∧ s.eu.role = .standby ∧ (mate .standby).segment = cfg.segment ∧
          ∀ m : Station, ∀ q ∈ s.pt.peers[m], q.role ≠ .designated ∧ outranks s m q) ∧
      (let s := preempting [(9, mate .designated)];
        s.eu.role = .standby ∧ s.pt.peers[(9 : Station)] = some (mate .designated) ∧
          ∀ m : Station, ∀ q ∈ s.pt.peers[m], q.role = .designated → outranks s m q) ∧
      (let s := among .standby [(4, mate .standby)];
        s.eu.role = .standby ∧ s.pt.peers[(4 : Station)] = some (mate .standby) ∧ ¬outranks s 4 (mate .standby) ∧
          ∀ m : Station, ∀ q ∈ s.pt.peers[m], q.role ≠ .designated) ∧
      (among .standby [(9, mate .designated)]).eu.role = .standby ∧ cfg.preempt = false ∧ (peer 6 .standby 8 0x0F#8 0).segment ≠ cfg.segment ∧
      (up .designated).cf.config = some cfg ∧ (up .designated).eu.role = .designated ∧ (mate .designated).role = .designated ∧
      outranks (up .designated) 9 (mate .designated) ∧ ¬outranks (up .designated) 4 (mate .designated) ∧
      ReportKind.takeover (some (up .designated).cf.station) = .takeover (some 5) ∧ ReportKind.announce ≠ .takeover (some 5) ∧
      ReportKind.announce ≠ .removed ∧ (mate .standby).role ≠ .designated := by decide +kernel

theorem witness_BecomingDesignated :
    (let s := among .standby [(9, mate .standby)];
      s.cf.config = some cfg ∧ ∀ n : Station, ∀ p ∈ s.pt.peers[n], ¬(p.segment = cfg.segment ∧ p.role = .designated)) ∧
      (let s := among .standby [(9, mate .designated), (4, mate .designated)];
        s.cf.config = some cfg ∧ s.pt.peers[(4 : Station)] = some (mate .designated) ∧ (mate .designated).role = .designated ∧
          ∀ m : Station, ∀ q ∈ s.pt.peers[m], m ≠ 4 → q.preference = (mate .designated).preference ∧ (4 : Station) < m) := by
  decide +kernel

theorem witness_SteppingDown : (up .designated).cf.config = some cfg := by decide +kernel

theorem witness_ListenPeriodEnds :
    (∀ n ∈ [(9 : Station), 4],
      let s := among .listening [(n, mate .listening)];
      s.resetAsserted = false ∧ s.cf.config = some cfg ∧ s.eu.role = .listening ∧ s.eu.listenTimer ≠ .stopped ∧
        ∀ m : Station, ∀ q ∈ s.pt.peers[m], q.role ≠ .designated) ∧
      (∀ m : Station, ∀ q ∈ (among .listening [(9, mate .listening)]).pt.peers[m], outranks (up .listening) m q) ∧
      (among .listening [(4, mate .listening)]).pt.peers[(4 : Station)] = some (mate .listening) ∧
      (mate .listening).segment = cfg.segment ∧ ¬outranks (up .listening) 4 (mate .listening) := by decide +kernel

theorem witness_AnnounceTimerExpires :
    (∀ missed ∈ [2, 3], ∀ role ∈ [Role.designated, .standby],
      let s := among role [(9, peer 9 .designated 8 0x0C#8 missed)];
      s.resetAsserted = false ∧ s.cf.config = some cfg ∧ s.pt.announceTimer ≠ .stopped ∧ s.cf.opState = .running ∧ s.eu.role = role ∧
        ((allStations.filter fun n => s.pt.peers[n].any fun p => decide (3 ≤ p.missed)) = if missed = 3 then [9] else [])) := by
  decide +kernel

theorem witness_GoodMessageTaken :
    (∀ h ∈ [(⟨0x50#8, 0, 0⟩ : LinkHeader), ⟨0x41#8, 0, 2⟩, ⟨0x11#8, 9, 0⟩],
      (ending h []).resetAsserted = false ∧ (ending h []).cl.receiver = .other h [] ∧ (ending h []).cl.link = .up ∧
        (downEnding h).resetAsserted = false ∧ (downEnding h).cl.receiver = .other h [] ∧ (downEnding h).cl.link = .down ∧
        (downEnding h).cf.opState = .running ∧ (downEnding h).eu.role = .disabled ∧ ([] <+: List.replicate h.length.val (0 : Byte))) ∧
      (List.replicate 2 (0 : Byte)).length = (2 : Fin 271).val ∧ (0x5A#8 : Byte) ≠ 0xA5#8 ∧ (∀ x ∈ [0x50#8, 0x00#8], x ≠ 0xA5#8) ∧
      downState.headerGoesOn [0x5A#8] ∧ (up .designated).headerGoesOn (0xA5#8 :: ([0x50#8] ++ 0xA5#8 :: [])) := by
  refine ⟨by decide +kernel, by decide, by decide, by decide, .inl rfl, .inr ⟨[], rfl, List.nil_prefix⟩⟩

/-- A response list of BUSY answers. -/
def busies (n : Nat) : List Response := List.replicate n ⟨0, [5, 5], false⟩
/-- A station whose engine is at work, with requests queued and BUSY answers waiting, in the body of a message. -/
def working (queued busy : Nat) (h : LinkHeader) (got : List Byte) : State :=
  { ending h got with me := ⟨List.replicate queued ⟨0, []⟩, some ⟨0, []⟩, .waitWalk, false⟩, cl.responses := busies busy }

theorem witness_RequestAndAcceptTaken :
    (∀ got ∈ [[], [7#8]], ∀ x ∈ [(3, 0), (4, 3), (4, 4)],
        let s := working x.1 x.2 ⟨0x20#8, 9, 1⟩ got;
        s.resetAsserted = false ∧ s.cl.receiver = .other ⟨0x20#8, 9, 1⟩ got ∧ ([7#8] : List Byte).length = (1 : Fin 271).val ∧
          got <+: [7#8] ∧ s.me.queue.length = x.1 ∧ s.me.stage ≠ .idle ∧
          (s.cl.responses.countP fun r => !r.fromEngine) = x.2) ∧
      (let s := ending ⟨0x20#8, 9, 0⟩ []; s.me.queue = [] ∧ s.me.stage = .idle) ∧
      (downEnding ⟨0x20#8, 9, 0⟩).cl.link = .down ∧ (downEnding ⟨0x41#8, 9, 1⟩).cl.link = .down ∧
      ((64 : Byte) - (ending ⟨0x41#8, 9, 1⟩ []).cl.deliveredTotal).toNat ≤ 64 ∧
      64 < ((65 : Byte) - (ending ⟨0x41#8, 9, 1⟩ []).cl.deliveredTotal).toNat := by decide +kernel

/-- The reserve of a station, whose buffer 0 is in a state. -/
def firstIs (st : ReserveState) : List ReserveBuf := ⟨0, st⟩ :: (up .designated).bq.reserve.drop 1

theorem witness_DataOutHeaderTakes :
    downState.resetAsserted = false ∧ (∀ bytes, downState.headerGoesOn bytes) ∧ downState.cl.link = .down ∧
      (∀ bytes, (up .designated).headerGoesOn bytes) ∧ ([] : List Byte).length ≤ (0 : Fin 271).val ∧
      bodyA.length ≤ (7 : Fin 271).val ∧
      ({ up .designated with cl.restartWindow := true } : State).cl.restartWindow = true ∧
      (∀ r ∈ ({ up .designated with bq.reserve := [⟨0, .held⟩] } : State).bq.reserve, r.state ≠ .opened) ∧
      (let s := { up .designated with bq.reserve := firstIs .held };
        s.resetAsserted = false ∧ s.cl.link = .up ∧ s.cl.restartWindow = false ∧ s.cl.receiver = .header [] ∧
          s.bq.reserve = [⟨0, .held⟩] ++ ⟨1, .opened⟩ :: (firstIs .held).drop 2 ∧
          (∀ r ∈ [(⟨0, .held⟩ : ReserveBuf)], r.state ≠ .opened) ∧
          ∀ r ∈ [(⟨0, .held⟩ : ReserveBuf)] ++ (firstIs .held).drop 2, r.num ≠ 1) := by
  refine ⟨rfl, fun _ => .inl rfl, rfl, fun _ => .inr ⟨[], rfl, List.nil_prefix⟩, by decide, by decide, rfl, by decide +kernel,
    by decide +kernel⟩

/-- A DATA_OUT of a mode and a tag being received, with buffer 1 held beside the RECEIVING one. -/
def taking (mode : DataOutMode) (tag : Byte) (got : List Byte) : State :=
  { up .designated with
    bq.reserve := ⟨0, .receiving⟩ :: ⟨1, .held⟩ :: (up .designated).bq.reserve.drop 2
    cl.receiver := .body ⟨0x10#8, tag, 7⟩ got mode }

theorem witness_DataOutRefused :
    (∀ x ∈ [(DataOutMode.stale, (0 : Byte)), (.overrun, 0), (.into 0, 8), (.into 0, 255), (.into 0, 7)], ∀ got ∈ [[], bodyA],
      let s := taking x.1 x.2 got;
      s.resetAsserted = false ∧ s.cl.link = .up ∧ s.cl.receiver = .body ⟨0x10#8, x.2, 7⟩ got x.1 ∧
        bodyA.length = (7 : Fin 271).val ∧ got <+: bodyA ∧
        s.bq.reserve = [] ++ ⟨0, .receiving⟩ :: (taking .stale 0 []).bq.reserve.drop 1) ∧
      (∀ r ∈ (taking .stale 0 []).bq.reserve.drop 1, r.num ≠ 0) ∧ (taking .stale 0 []).bq.reserve.length = 8 ∧
      ({ downState with cl.receiver := .body ⟨0x10#8, 0, 7⟩ [] .stale } : State).cl.link = .down ∧
      ((8 : Byte) - (taking (.into 0) 8 []).cl.expectedSeq).toNat = 8 ∧
      ((255 : Byte) - (taking (.into 0) 255 []).cl.expectedSeq).toNat = 255 ∧
      ((taking .stale 0 []).bq.reserve.drop 1).countP (fun r => r.state == .opened) = 6 := by decide +kernel

theorem witness_DataOutAccepted :
    (∀ tag ∈ [(0 : Byte), 6], ∀ got ∈ [[], bodyA],
      let s := taking (.into 0) tag got;
      s.resetAsserted = false ∧ s.cl.link = .up ∧ s.cl.receiver = .body ⟨0x10#8, tag, 7⟩ got (.into 0) ∧
        bodyA.length = (7 : Fin 271).val ∧ got <+: bodyA ∧
        s.bq.reserve = [] ++ ⟨0, .receiving⟩ :: s.bq.reserve.drop 1 ∧ (∀ r ∈ s.bq.reserve.drop 1, r.num ≠ 0) ∧
        (tag - s.cl.expectedSeq).toNat < s.bq.reserve.length ∧
        (tag - s.cl.expectedSeq).toNat ≤ (s.bq.reserve.drop 1).countP fun r => r.state == .opened) ∧
      (let s := taking (.into 0) 6 [];
        s.bq.reserve = s.bq.reserve.take 2 ++ ⟨2, .opened⟩ :: s.bq.reserve.drop 3 ∧ (∀ r ∈ s.bq.reserve.take 2, r.state ≠ .opened) ∧
          ∀ r ∈ s.bq.reserve.take 2 ++ s.bq.reserve.drop 3, r.num ≠ 2) := by decide +kernel

theorem witness_MessagesEnd :
    (∀ m ∈ [OutMessage.credit 1, .event record0, .idle, .status .running .designated none false, .status .loading .disabled none true],
      ({ up .designated with cl.tx := some m } : State).resetAsserted = false ∧ ({ up .designated with cl.tx := some m } : State).cl.tx = some m) ∧
      (∀ straddled,
        let s := { delivering with cl.tx := some (.dataIn 1 [] straddled) };
        s.cl.tx = some (.dataIn 1 [] straddled) ∧ s.bq.deliverySlot = some rx60) ∧
      (let s := { up .designated with cl.idleTimer := .running 1 }; s.cl.link = .up ∧ s.cl.idleTimer = .running (0 + 1)) := by
  decide +kernel

theorem witness_ResponsesEnd :
    (∀ restart, let s := responding restart;
      s.resetAsserted = false ∧ s.cl.tx = some (.response response0) ∧ response0.fromEngine = true ∧ s.me.stage = .waitSend restart ∧
        s.me.queue = ⟨0x3D#8, [7]⟩ :: []) ∧
      ({ responding false with me.queue := [] } : State).me.queue = [] ∧
      (let r : Response := ⟨0, [5, 5], false⟩
       ({ up .designated with cl.tx := some (.response r) } : State).cl.tx = some (.response r) ∧ r.fromEngine = false) := by
  decide +kernel

theorem witness_WarmRestart : downState.cl.link = .down ∧ (up .designated).cl.link = .up := by decide +kernel

theorem witness_LinkGoesDown :
    (∀ role ∈ [Role.disabled, .listening, .standby, .designated],
      ∀ stage ∈ [Stage.taken .running, .waitWalk, .waitSend false, .waitSend true, .idle],
        let s := { up role with me := ⟨[], none, stage, false⟩ };
        s.resetAsserted = false ∧ s.cl.link = .up ∧ s.cf.config = some cfg ∧ s.eu.role = role ∧ s.me.stage = stage) ∧
      (let s : State := { up .disabled with cf := ⟨.loading, 5, none, []⟩ };
        s.resetAsserted = false ∧ s.cl.link = .up ∧ s.cf.config = none ∧ s.eu.role = .disabled) ∧
      (∃ r ∈ [response0], r.fromEngine = true) ∧ (∀ r ∈ busies 4, r.fromEngine = false) := by decide +kernel

/-- A request taken while an operating state stands. -/
def askedIn (op : OpState) (body : List Byte) (mark : Bool) (queue : List Request) : State :=
  { up .disabled with
    cf := ⟨op, 5, if op = .loading ∨ op = .configFault then none else some cfg, []⟩
    me := ⟨queue, some ⟨0x3C#8, body⟩, .taken op, mark⟩ }

theorem witness_RequestsRefused :
    (∀ op ∈ [OpState.loading, .configFault], ∀ mark, ∀ queue ∈ [[], [⟨0x3D#8, [7]⟩]],
      ∀ body ∈ [[1#8, 2, 3], [2#8, 0x21], [3#8, 1, 2, 3, 4], [4#8, 1, 2], [5#8, 0, 0], [6#8, 9], [10#8]],
        let s := askedIn op body mark queue;
        s.resetAsserted = false ∧ s.me.stage = .taken op ∧ s.me.current = some ⟨0x3C#8, body⟩ ∧
          s.me.discardMark = mark ∧ s.me.queue = queue) ∧
      ∀ body ∈ [[], [0#8], [11#8], [1#8, 2], [1#8, 2, 3, 4]],
        (askedIn .running body false []).me.current = some ⟨0x3C#8, body⟩ ∧
          ∀ code ∈ body.head?, (code, body.length) ∉
            [(1#8, 3), (2#8, 2), (3#8, 5), (4#8, 3), (5#8, 3), (6#8, 2), (7#8, 1), (8#8, 4), (9#8, 2), (10#8, 1)] := by
  decide +kernel

/-- A request taken in RUNNING with bucket 0x21 given. -/
def asking (b : Bucket) (body : List Byte) : State := withBucket 0x21 b (asked body)

theorem witness_TableReads :
    (∀ body ∈ [[1#8, 0x03, 0x22], [1#8, 0xFF, 0xDE], [2#8, 0x21]],
      let s := asking bucket15 body;
      s.resetAsserted = false ∧ s.me.stage = .taken .running ∧ s.me.discardMark = false ∧ OpState.running ≠ .loading ∧ OpState.running ≠ .configFault ∧
        s.me.current = some ⟨0x3C#8, body⟩) ∧
      (let b := (asking bucket15 [1#8, 0x03, 0x22]).lt[(0x03#8 ^^^ 0x22#8).toNat]
       b[(1 : Way)] = some ⟨0x0322#16, 3, .station 12, .dynamic, 0⟩ ∧
         (∀ v : Way, v < 1 → ∀ y ∈ b[v], y.eid ≠ word16 0x03#8 0x22#8) ∧
         ∀ v : Way, ∀ y ∈ b[v], y.eid ≠ word16 0xFF#8 0xDE#8) ∧ (0xFF#8 ^^^ 0xDE#8).toNat = 0x21 := by decide +kernel

/-- A bucket whose ways are full, with DYNAMIC entries of ages 0, 0 and 1 (section 1.8, step 8). -/
theorem witness_TableWrites :
    (∀ body ∈ [[3#8, 0xFF, 0xFF, 1, 0x40], [3#8, 0x10, 0x31, 8, 0x40], [3#8, 0x10, 0x31, 7, 32], [3#8, 0x10, 0x31, 7, 5],
        [3#8, 0x10, 0x31, 7, 0x40], [3#8, 0x10, 0x31, 0, 31], [4#8, 0x40, 0x61]],
      let s := asking bucket8 body;
      s.resetAsserted = false ∧ s.me.stage = .taken .running ∧ s.me.discardMark = false ∧ OpState.running ≠ .loading ∧ OpState.running ≠ .configFault ∧
        s.me.current = some ⟨0x3C#8, body⟩) ∧
      (word16 0xFF#8 0xFF#8 = 0xFFFF#16 ∧ 7 < (8 : Byte).toNat ∧ (32 : Byte) ≠ 0x40#8 ∧ 31 < (32 : Byte).toNat ∧
        (5 : Byte).toNat = (asking bucket8 []).cf.station.val) ∧
      (word16 0x10#8 0x31#8 ≠ 0xFFFF#16 ∧ (7 : Byte).toNat = (7 : Zone).val ∧ (0 : Byte).toNat = (0 : Zone).val ∧
        (31 : Byte).toNat = (31 : Station).val ∧ Place.station 31 ≠ .station (asking bucket8 []).cf.station) ∧
      ((∃ y, bucket8[(3 : Way)] = some y ∧ y.eid = 0x1031#16) ∧ ∀ v : Way, v < 3 → ∀ y ∈ bucket8[v], y.eid ≠ 0x1031#16) ∧
      ((∀ v : Way, ∀ y ∈ (bucket11.set 1 none)[v], y.eid ≠ 0x0322#16) ∧ (bucket11.set 1 none)[(1 : Way)] = none ∧
        ∀ v : Way, v < 1 → (bucket11.set 1 none)[v] ≠ none) ∧
      ((∀ v : Way, ∀ y ∈ bucket7[v], y.eid ≠ 0x1031#16) ∧ (∀ v : Way, bucket7[v] ≠ none) ∧
        bucket7[(3 : Way)] = some ⟨0x0322#16, 3, .station 12, .dynamic, 1⟩ ∧
        ∀ v : Way, ∀ y ∈ bucket7[v], y.kind = .dynamic → y.age < 1 ∨ (y.age = 1 ∧ 3 ≤ v)) ∧
      ((∀ v : Way, ∀ y ∈ bucket11[v], y.eid ≠ 0x0322#16) ∧ ∀ v : Way, (bucket11[v]).any fun y => y.kind == .static) := by
  refine ⟨by decide +kernel, by decide +kernel, by decide +kernel, ⟨⟨_, rfl, rfl⟩, by decide +kernel⟩, by decide +kernel,
    by decide +kernel, by decide +kernel⟩

theorem witness_FlushIsHandedOver :
    (∀ body ∈ [[5#8, 4, 0], [5#8, 1, 32], [5#8, 1, 5], [5#8, 2, 8], [5#8, 0, 9], [5#8, 1, 0x40], [5#8, 1, 31], [5#8, 2, 7], [5#8, 3, 0]],
      let s := asked body;
      s.resetAsserted = false ∧ s.me.stage = .taken .running ∧ OpState.running ≠ .loading ∧ OpState.running ≠ .configFault ∧
        s.me.current = some ⟨0x3C#8, body⟩ ∧ s.me.discardMark = false ∧ s.tw.job = none) ∧
      3 < (4 : Byte).toNat ∧ 31 < (32 : Byte).toNat ∧ (5 : Byte).toNat = (asked []).cf.station.val ∧ 7 < (8 : Byte).toNat ∧
      (31 : Byte).toNat = (31 : Station).val ∧ (31 : Station) ≠ (asked []).cf.station ∧ (7 : Byte).toNat = (7 : Zone).val ∧
      ({ asked [5#8, 0, 9] with tw.job := some .sweep } : State).tw.job ≠ none := by decide +kernel

theorem witness_PeerAndStatusReads :
    (∀ body ∈ [[6#8, 32], [6#8, 5], [6#8, 31], [6#8, 12], [7#8]],
      let s := { asked body with pt.peers := peers39 };
      s.resetAsserted = false ∧ s.me.stage = .taken .running ∧ s.me.discardMark = false ∧ OpState.running ≠ .loading ∧ OpState.running ≠ .configFault ∧
        s.me.current = some ⟨0x3C#8, body⟩ ∧ s.pt.peers[(31 : Station)] = none ∧
        s.pt.peers[(12 : Station)] = some (peer 12 .designated 8 0x02#8 2)) ∧
      31 < (32 : Byte).toNat ∧ (5 : Byte).toNat = (asked []).cf.station.val ∧ (31 : Byte).toNat = (31 : Station).val ∧
      (31 : Station) ≠ (asked []).cf.station := by decide +kernel

theorem witness_CountersAlarmsRestart :
    (∀ body ∈ [[8#8, 0, 29, 0], [8#8, 28, 0, 2], [8#8, 0, 28, 0], [8#8, 27, 1, 1], [9#8, 0x80], [9#8, 0x81], [10#8]],
      let s := asked body;
      s.resetAsserted = false ∧ s.me.stage = .taken .running ∧ s.me.discardMark = false ∧ s.me.current = some ⟨0x3C#8, body⟩ ∧
        OpState.running ≠ .loading ∧ s.ec.alarms.has .dupStation = false) ∧
      28 < (0 : Byte).toNat + (29 : Byte).toNat ∧ 1 < (2 : Byte).toNat ∧ (0 : Byte).toNat + (28 : Byte).toNat ≤ 28 ∧
      (0x80#8 ∉ [0x81#8, 0x82#8, 0x83#8, 0x84#8]) ∧ EventKind.dupStation.isAlarm = true ∧ EventKind.dupStation.code = 0x81#8 ∧
      (let s := { asked [9#8, 0x81] with ec := ⟨[record0, ⟨.dupStation, 5, 56, 4⟩], ⟨true, false, false, false⟩, 57, 0, Vector.replicate 28 0⟩ };
        s.ec.alarms.has .dupStation = true ∧ s.ec.queue = [record0] ++ ⟨.dupStation, 5, 56, 4⟩ :: [] ∧
          ∀ x ∈ [record0] ++ [], x.kind ≠ .dupStation) ∧
      (∀ r ∈ [record0], r.kind ≠ .dupStation) ∧
      ({ asked [10#8] with me.discardMark := true } : State).me.discardMark = true := by decide +kernel

/-- The walker at a job and a cursor. -/
def walking (j : Option Job) (cursor : BucketNo) : State :=
  { withBucket 0x21 bucket7 (up .designated) with tw := ⟨j, cursor, [], none, false, .running 30⟩ }

theorem witness_WalkerJobsAreRaised :
    (∀ j ∈ [none, some .sweep, some (.internalFlush [.here])],
      let s := walking j 0;
      s.resetAsserted = false ∧ s.cf.config = some cfg ∧ s.tw.sweepTimer ≠ .stopped ∧ s.tw.sweepPending = false ∧ s.tw.job = j) ∧
      ({ walking (some .sweep) 0 with tw.sweepPending := true } : State).tw.sweepPending = true ∧ [Place.here] ≠ [] := by decide +kernel

theorem witness_BucketIsVisited :
    ∀ j ∈ [Job.internalFlush [.here, .station 9], .managementFlush .allDynamic 0, .managementFlush (.zone 2) 1024, .sweep],
      ∀ cursor ∈ [(0 : BucketNo), 0x21, 254],
        let s := walking (some j) cursor;
        s.resetAsserted = false ∧ s.cf.config = some cfg ∧ s.tw.cursor ≠ 255 ∧ s.tw.job = some j := by decide +kernel

theorem witness_JobCompletes :
    (∀ j ∈ [Job.internalFlush [.here], .sweep],
      (walking (some j) 255).resetAsserted = false ∧ (walking (some j) 255).cf.config = some cfg ∧ (walking (some j) 255).tw.cursor = 255 ∧ (walking (some j) 255).tw.job = some j) ∧
      (∀ scope count, Job.sweep ≠ .managementFlush scope count) ∧
      ∀ mark, ∀ queue ∈ [[], [⟨0x3D#8, [7]⟩]],
        let s := { walking (some (.managementFlush .everything 3)) 255 with me := ⟨queue, some ⟨0x11#8, [5, 3, 0]⟩, .waitWalk, mark⟩ };
        s.resetAsserted = false ∧ s.tw.cursor = 255 ∧ s.tw.job = some (.managementFlush .everything 3) ∧ s.me.stage = .waitWalk ∧
          s.me.current = some ⟨0x11#8, [5, 3, 0]⟩ ∧ s.me.discardMark = mark ∧ s.me.queue = queue := by
  refine ⟨by decide +kernel, fun _ _ h => Job.noConfusion h, by decide +kernel⟩

/-- Section 1.8's buckets before steps 1, 8, 12, 6, 7 and 9. -/
theorem witness_LearnTakesItsCase :
    (let b := (withBucket 0x21 #v[sta 0x2100#16 1 .here, none, none, none] (up .designated)).lt[(0x21 : BucketNo)]
     (∀ v : Way, ∀ y ∈ b[v], y.eid ≠ 0x0120#16) ∧ b[(1 : Way)] = none ∧ ∀ v : Way, v < 1 → b[v] ≠ none) ∧
      (hiByte 0x0120#16 ^^^ loByte 0x0120#16).toFin = (0x21 : BucketNo) ∧
      ((∀ v : Way, ∀ y ∈ bucket7[v], y.eid ≠ 0x1031#16) ∧ (∀ v : Way, bucket7[v] ≠ none) ∧
        bucket7[(3 : Way)] = some ⟨0x0322#16, 3, .station 12, .dynamic, 1⟩ ∧
        ∀ v : Way, ∀ y ∈ bucket7[v], y.kind = .dynamic → y.age < 1 ∨ (y.age = 1 ∧ 3 ≤ v)) ∧
      ((∀ v : Way, ∀ y ∈ bucket11[v], y.eid ≠ 0x0322#16 ∧ y.kind = .static) ∧ ∀ v : Way, bucket11[v] ≠ none) ∧
      (let b := bucket7.set 1 (dyn 0x0120#16 2 .here 2)
       b[(2 : Way)] = some ⟨0x0223#16, 2, .station 9, .dynamic, 0⟩ ∧ (∀ v : Way, v ≠ 2 → ∀ y ∈ b[v], y.eid ≠ 0x0223#16) ∧
         b[(1 : Way)] = some ⟨0x0120#16, 2, .here, .dynamic, 2⟩ ∧ (∀ v : Way, v ≠ 1 → ∀ y ∈ b[v], y.eid ≠ 0x0120#16) ∧
         b[(0 : Way)] = some ⟨0x2100#16, 1, .here, .static, 0⟩ ∧ ∀ v : Way, v ≠ 0 → ∀ y ∈ b[v], y.eid ≠ 0x2100#16) := by
  decide +kernel

/-- Section 3.9's frames: well formed, too short, zone 5, and BROADCAST. -/
theorem witness_CardDecisionStarts :
    (∀ role ∈ [Role.designated, .standby], ∀ learn,
      let s := { deciding (.learn (frameTo 0 0 false)) with
        fe.card := [], eu := (up role).eu, cf.config := some { cfg with learn := learn } };
      s.cf.config = some { cfg with learn := learn } ∧ (s.fe.card.head?.any fun d => d.stage.isDiscard) = false ∧
        (s.bq.reserve.any fun r => r.num == 0) ∧ s.cf.opState = .running ∧ s.eu.role = role) ∧
      (let s := deciding (.lookup (frameTo 0 0 false))
       (s.fe.card.head?.any fun d => d.stage.isDiscard) = false ∧ s.fe.card ≠ []) ∧
      (∀ body ∈ [bodyA, bodyA.take 6 ++ List.replicate 256 0, bodyA.set 4 5#8, (bodyA.set 0 0xFF#8).set 1 0xFF#8],
        7 ≤ body.length ∧ body.length ≤ 262 ∧ (body.getD 4 0).toNat ≤ 7 ∧ (body.getD 5 0).toNat ≤ 1 ∧
          word16 (body.getD 2 0) (body.getD 3 0) ≠ 0xFFFF#16) ∧
      ¬7 ≤ (bodyA.take 6).length ∧ ¬(bodyA ++ List.replicate 256 0).length ≤ 262 ∧ hasZone cfg.zones 5 = false ∧
      hasZone cfg.zones 2 = true ∧ (bodyA.getD 4 0).toNat = (2 : Zone).val ∧
      peers39[(9 : Station)] = some (peer 9 .designated 8 0x0C#8 0) ∧ hasZone 0x0C#8 2 = true ∧
      (∀ n : Station, ∀ p ∈ peers39[n], p.role = .designated → hasZone p.zones 0 = false) := by decide +kernel

theorem witness_CardDecisionGoesOn :
    (∀ f ∈ [frameTo 0x0223#16 2 false, frameTo 0xFFFF#16 1 true, frameTo 0xFFFF#16 0 false],
      let s := deciding (.learn f);
      s.resetAsserted = false ∧ s.cf.config = some cfg ∧ s.fe.card[0]? = some ⟨some 0, .learn f⟩) ∧
      (∀ p ∈ [Place.here, .station 9, .station 12, .station 17],
        let s := withBucket 0x21 #v[dyn 0x0223#16 2 p 0, none, none, none] (deciding (.lookup (frameTo 0x0223#16 2 false)));
        let b := s.lt[(hiByte 0x0223#16 ^^^ loByte 0x0223#16).toNat];
        s.fe.card[0]? = some ⟨some 0, .lookup (frameTo 0x0223#16 2 false)⟩ ∧ b[(0 : Way)] = some ⟨0x0223#16, 2, p, .dynamic, 0⟩ ∧
          ∀ v : Way, v ≠ 0 → ∀ y ∈ b[v], y.eid ≠ 0x0223#16) ∧
      (∀ v : Way, ∀ y ∈ (deciding (.lookup (frameTo 0x7777#16 0 false))).lt[(0 : BucketNo)][v], y.eid ≠ 0x7777#16) ∧
      (∀ f ∈ [frameTo 0x0223#16 2 false, frameTo 0x7777#16 0 false], ∀ n ∈ [(9 : Station), 12, 17],
        (deciding (.peer f n)).fe.card[0]? = some ⟨some 0, .peer f n⟩ ∧ (deciding (.flood f)).fe.card[0]? = some ⟨some 0, .flood f⟩) ∧
      (∀ n : Station, ∀ p ∈ peers39[n], p.role = .designated → hasZone p.zones 0 = false) ∧
      peers39[(17 : Station)] = none ∧ peers39[(12 : Station)] = some (peer 12 .designated 8 0x02#8 2) ∧ hasZone 0x02#8 2 = false ∧
      peers39[(9 : Station)] = some (peer 9 .designated 8 0x0C#8 0) ∧ hasZone 0x0C#8 2 = true ∧
      (∀ drop, ({ cfg with dropUnknown := drop } : Config).dropUnknown = drop) ∧
      (CardStage.discard .zoneDrop).isDiscard = true ∧ (CardStage.lookup (frameTo 0 0 false)).isDiscard = false ∧
      (deciding (.discard .zoneDrop)).bq.reserve.any (fun r => r.num == 0) := by decide +kernel

/-- The frame of section 3.10, frame 1. -/
def frame1 : DataFrame := ⟨9, .station 5, false, 2, 0x0A05#16, 0x0224#16, [0xAB#8]⟩
/-- A backplane decision, with bucket 0x0F given. -/
def hearingDecision (d : BackplaneDecision) (e : Option Entry) : State :=
  { withBucket 0x0F #v[e, none, none, none] (up .designated) with fe.backplane := [d] }

theorem witness_BackplaneDecisionGoesOn :
    (∀ plan ∈ [DeliveryPlan.letGo, .lookup, .deliver],
      let s := hearingDecision ⟨false, .learn frame1 plan⟩ none;
      s.resetAsserted = false ∧ s.cf.config = some cfg ∧ s.fe.backplane[0]? = some ⟨false, .learn frame1 plan⟩) ∧
      ∀ p ∈ [Place.here, .station 14], ∀ overtaken,
        let s := hearingDecision ⟨overtaken, .lookup frame1⟩ (dyn 0x0A05#16 2 p 0);
        let b := s.lt[(hiByte frame1.dstEid ^^^ loByte frame1.dstEid).toNat];
        s.fe.backplane[0]? = some ⟨overtaken, .lookup frame1⟩ ∧ b[(0 : Way)] = some ⟨0x0A05#16, 2, p, .dynamic, 0⟩ ∧
          (∀ v : Way, v ≠ 0 → ∀ y ∈ b[v], y.eid ≠ frame1.dstEid) ∧
          ∀ v : Way, ∀ y ∈ (hearingDecision ⟨overtaken, .lookup frame1⟩ none).lt[(0x0F : BucketNo)][v], y.eid ≠ frame1.dstEid := by
  decide +kernel

theorem witness_FramesAreHandedOver :
    (∀ urgent, let s := deciding (.handover (frameTo 0x0223#16 2 urgent) (.station 9));
      s.resetAsserted = false ∧ s.fe.card = ⟨some 0, .handover (frameTo 0x0223#16 2 urgent) (.station 9)⟩ :: [] ∧
        s.bq.reserve = [] ++ ⟨0, .held⟩ :: s.bq.reserve.drop 1 ∧ s.eu.role = .designated ∧
        ¬(if urgent = true then 16 ≤ s.bq.urgentQ.length else 32 ≤ s.bq.normalQ.length)) ∧
      ({ deciding (.handover (frameTo 0 0 true) .all) with bq.urgentQ := List.replicate 16 (record 60 true 0) } : State).bq.urgentQ.length = 16 ∧
      ({ deciding (.handover (frameTo 0 0 false) .all) with bq.normalQ := List.replicate 32 (record 60 false 0) } : State).bq.normalQ.length = 32 ∧
      (∀ role ∈ [Role.standby, .designated], ∀ overtaken,
        let s := { up role with fe.backplane := [⟨overtaken, .handover frame1⟩] };
        s.resetAsserted = false ∧ s.fe.backplane = ⟨overtaken, .handover frame1⟩ :: [] ∧ s.eu.role = role ∧ s.bq.free = 8 :: s.bq.free.drop 1 ∧
          s.bq.deliveryQ.length < 32) ∧
      ({ up .designated with bq.free := [] } : State).bq.free = [] ∧
      32 ≤ ({ up .designated with bq.deliveryQ := List.replicate 32 rx60 } : State).bq.deliveryQ.length := by decide +kernel

/-- A station with a decision, statics, peers and a command waiting. -/
def lawful : State :=
  { withBucket 0x21 bucket11 (deciding (.learn (frameTo 0x0223#16 2 false))) with cl.tx := none, pending := [.learn .card 0] }

theorem witness_step_lawful : ∃ t, step lawful = .next t := ⟨_, rfl⟩

theorem witness_PoolStaysWhole : lawful.poolWhole ∧ lawful.reserveMatches := by
  unfold State.poolWhole State.reserveMatches
  decide +kernel

theorem witness_BoundsAreKept : lawful.depthsKept ∧ lawful.attemptsKept ∧ lawful.reserveKept ∧ lawful.eventsKept := by
  refine ⟨by unfold State.depthsKept; decide +kernel, ⟨by decide +kernel, trivial⟩, by unfold State.reserveKept; decide +kernel,
    by decide +kernel, by decide +kernel, ?_⟩
  intro k
  cases k <;> decide +kernel

theorem witness_RoleStaysSound : lawful.roleKept ∧ lawful.holdsNothing ∧ lawful.electionKept := by
  unfold State.roleKept State.holdsNothing State.electionKept
  decide +kernel

theorem witness_TablesStaySound :
    lawful.configKept ∧ lawful.peersKept ∧ lawful.learnsKept ∧ lawful.headsKept ∧ lawful.tableKept := by
  refine ⟨?_, ?_, ?_, ?_, ?_⟩
  · refine ⟨by unfold configInRange; decide +kernel, by decide +kernel, fun h => absurd h (by decide +kernel)⟩
  · unfold State.peersKept Peer.inRange; decide +kernel
  · refine ⟨?_, by intro d h; cases h⟩
    intro d h f e
    have : d = ⟨some 0, .learn (frameTo 0x0223#16 2 false)⟩ := by simpa [lawful, withBucket, deciding] using h
    subst this; cases e; decide
  · unfold State.headsKept; decide +kernel
  · unfold State.tableKept State.entryKept; decide +kernel

theorem witness_BusStaysSound : lawful.transmitterKept ∧ lawful.ladderKept := by
  unfold State.transmitterKept State.ladderKept
  decide +kernel

theorem witness_LinkStaysSound : lawful.linkKept ∧ lawful.deliveryKept ∧ lawful.arbiterKept := by
  unfold State.linkKept State.deliveryKept State.arbiterKept State.nothingReady
  decide +kernel

theorem witness_EngineStaysSound : lawful.engineKept ∧ lawful.walkerKept := by
  unfold State.engineKept State.walkerKept
  decide +kernel

end Sys2Proof.Tests
end

section
/-! The ways of a bucket: what each search of R2, R7, R10 and R15 finds, and what a write leaves in each way. -/

namespace Sys2Proof.Machine

/-! ## Searching the ways -/

/-- The search of the ways finds the lowest that passes. -/
theorem find_allWays_eq_some (p : Way → Bool) (w : Way) :
    allWays.find? p = some w ↔ p w = true ∧ ∀ v < w, p v = false := by
  revert p w; decide

/-- Every way is searched. -/
@[simp] theorem mem_allWays (w : Way) : w ∈ allWays := by revert w; decide

/-- The lowest way that holds the EID is found (R7). -/
theorem findWay_eq_some (b : Bucket) (e : Eid) (w : Way) :
    findWay b e = some w ↔ (∃ y, b[w] = some y ∧ y.eid = e) ∧ ∀ v < w, ∀ y ∈ b[v], y.eid ≠ e := by
  simp [findWay, find_allWays_eq_some, Option.any_eq_true, Option.any_eq_false]

/-- No way is found for an EID that the bucket does not hold (R7). -/
theorem findWay_eq_none (b : Bucket) (e : Eid) : findWay b e = none ↔ ∀ v : Way, ∀ y ∈ b[v], y.eid ≠ e := by
  simp [findWay, Option.any_eq_false]

/-- The only way that holds the EID is the one found (R7). -/
theorem findWay_of_unique (b : Bucket) (e : Eid) (w : Way) (x : Entry) (hx : b[w] = some x) (he : x.eid = e)
    (hu : ∀ v : Way, v ≠ w → ∀ y ∈ b[v], y.eid ≠ e) : findWay b e = some w :=
  (findWay_eq_some b e w).2 ⟨⟨x, hx, he⟩, fun v hv => hu v hv.ne⟩

/-- The lowest empty way is found (R2). -/
theorem emptyWay_eq_some (b : Bucket) (w : Way) : emptyWay b = some w ↔ b[w] = none ∧ ∀ v < w, b[v] ≠ none := by
  simp [emptyWay, find_allWays_eq_some, Option.isNone_eq_false_iff, Option.isSome_iff_ne_none]

/-- No empty way is found in a full bucket (R2). -/
theorem emptyWay_eq_none (b : Bucket) : emptyWay b = none ↔ ∀ v : Way, b[v] ≠ none := by
  simp [emptyWay]

/-! ## The victim (R10) -/

/-- The best victim among some ways: the DYNAMIC entry of the largest age, the lowest way on a tie, and none where no way holds a
DYNAMIC entry. -/
def bestVictim (b : Bucket) (ways : List Way) : Option (Way × Nat) → Prop
  | none => ∀ v ∈ ways, dynamicAge b v = none
  | some (w, a) => w ∈ ways ∧ dynamicAge b w = some a ∧ ∀ v ∈ ways, ∀ c ∈ dynamicAge b v, c < a ∨ (c = a ∧ w ≤ v)

/-- The next way is weighed against the best of the ways below it. -/
theorem bestVictim_olderVictim (b : Bucket) (ways : List Way) (best : Option (Way × Nat)) (w : Way)
    (hb : bestVictim b ways best) (hw : ∀ v ∈ ways, v < w) : bestVictim b (ways ++ [w]) (olderVictim b best w) := by
  unfold olderVictim
  cases hd : dynamicAge b w with
  | none =>
    match best, hb with
    | none, hb => simpa [bestVictim, or_imp, forall_and, hd] using hb
    | some (u, c), hb => simpa [bestVictim, or_imp, forall_and, hd, hb.1] using hb.2
  | some a =>
    match best, hb with
    | none, hb =>
      refine ⟨by simp, hd, ?_⟩
      intro v hv c hc
      rcases List.mem_append.1 hv with hv | hv
      · simp [hb v hv] at hc
      · simp_all
    | some (u, c), ⟨hu, hc, hmax⟩ =>
      dsimp only
      split
      case isTrue hlt =>
        refine ⟨by simp, hd, fun v hv d hdv => ?_⟩
        rcases List.mem_append.1 hv with hv | hv
        · have := hmax v hv d hdv; omega
        · simp_all
      case isFalse hge =>
        refine ⟨by simp [hu], hc, fun v hv d hdv => ?_⟩
        rcases List.mem_append.1 hv with hv | hv
        · exact hmax v hv d hdv
        · obtain rfl : v = w := List.mem_singleton.1 hv
          obtain rfl : a = d := Option.some.inj (hd.symm.trans hdv)
          exact (Nat.not_lt.1 hge).lt_or_eq.imp id fun h => ⟨h, (hw u hu).le⟩

/-- The search for the victim weighs all four ways. -/
theorem bestVictim_allWays (b : Bucket) : bestVictim b allWays (allWays.foldl (olderVictim b) none) := by
  have h0 : bestVictim b [] none := by simp [bestVictim]
  have h1 := bestVictim_olderVictim b _ _ 0 h0 (by decide)
  have h2 := bestVictim_olderVictim b _ _ 1 h1 (by decide)
  have h3 := bestVictim_olderVictim b _ _ 2 h2 (by decide)
  exact bestVictim_olderVictim b _ _ 3 h3 (by decide)

/-- The age a victim is weighed by is that of a DYNAMIC entry. -/
theorem dynamicAge_eq_some (b : Bucket) (w : Way) (a : Nat) :
    dynamicAge b w = some a ↔ ∃ x, b[w] = some x ∧ x.kind = .dynamic ∧ x.age = a := by
  unfold dynamicAge
  cases h : b[w] <;> simp

/-- The victim is the oldest DYNAMIC entry, the lowest way on a tie (R10). -/
theorem victimWay_eq_some (b : Bucket) (w : Way) (x : Entry) (hx : b[w] = some x) (hd : x.kind = .dynamic)
    (hmax : ∀ v : Way, ∀ y ∈ b[v], y.kind = .dynamic → y.age < x.age ∨ (y.age = x.age ∧ w ≤ v)) :
    victimWay b = some w := by
  have hw : dynamicAge b w = some x.age := (dynamicAge_eq_some b w _).2 ⟨x, hx, hd, rfl⟩
  have best := bestVictim_allWays b
  unfold victimWay
  match hf : allWays.foldl (olderVictim b) none, best with
  | none, best => simp [best w (mem_allWays w)] at hw
  | some (u, a), ⟨_, hu, best⟩ =>
    obtain ⟨y, hy, hyd, rfl⟩ := (dynamicAge_eq_some b u a).1 hu
    have h1 := hmax u y hy hyd
    have h2 : x.age < y.age ∨ (x.age = y.age ∧ u ≤ w) := best w (mem_allWays w) _ hw
    have huw : u = w := by
      rcases h1 with h1 | ⟨he, h1⟩ <;> rcases h2 with h2 | ⟨he2, h2⟩
      · omega
      · omega
      · omega
      · exact le_antisymm h2 h1
    simp [huw]

/-- A bucket of no DYNAMIC entry has no victim (R11). -/
theorem victimWay_eq_none (b : Bucket) (h : ∀ v : Way, ∀ y ∈ b[v], y.kind = .static) : victimWay b = none := by
  have best := bestVictim_allWays b
  unfold victimWay
  match hf : allWays.foldl (olderVictim b) none, best with
  | none, _ => rfl
  | some (u, a), ⟨_, hu, _⟩ =>
    obtain ⟨y, hy, hyd, -⟩ := (dynamicAge_eq_some b u a).1 hu
    simp [h u y hy] at hyd

/-! ## Writing a way -/

/-- What stands in each way once an entry is written. -/
theorem putEntry_get (b : Bucket) (w v : Way) (x : Entry) : (putEntry b w x)[v] = if v = w then some x else b[v] := by
  simp [putEntry, Vector.getElem_set, Fin.ext_iff, eq_comm]

/-- What stands in each way once one is emptied. -/
theorem clearWay_get (b : Bucket) (w v : Way) : (clearWay b w)[v] = if v = w then none else b[v] := by
  simp [clearWay, Vector.getElem_set, Fin.ext_iff, eq_comm]

/-- What stands in each place of a mapped vector. -/
theorem vmap_get {α β : Type} {n : Nat} (f : α → β) (v : Vector α n) (i : Fin n) : (vmap f v)[i] = f v[i] := by
  simp [vmap]

/-- What stands in each way after a flush (R18). -/
theorem flushBucket_get (test : Entry → Bool) (b : Bucket) (w : Way) :
    (flushBucket test b)[w] = b[w].filter fun x => !test x := vmap_get _ _ _

/-- What stands in each way after a sweep (R34). -/
theorem sweepBucket_get (limit : Nat) (b : Bucket) (w : Way) :
    (sweepBucket limit b)[w] = (b[w].filter fun x => !agedTest limit x).map stepAge := by
  rw [sweepBucket, vmap_get, flushBucket_get]

end Sys2Proof.Machine
end

section
/-! The learn claim (R8 to R14) and the two claims of management (R15, R16): which case each bucket gives. -/

namespace Sys2Proof.Machine

variable (s : State) (b : Bucket) (e : Eid) (z : Zone) (p : Place) (w : Way) (x : Entry)

/-! ## The case of a learn -/

/-- An entry for the EID decides the learn's case by its kind and place (R12 to R14). -/
theorem learnCase_of_hit (hw : findWay b e = some w) (hx : b[w] = some x) :
    learnCase b e p =
      if x.kind = .static then .staticHit (decide (x.place ≠ p))
      else if x.place = p then .refreshed w
      else .moved w (decide (x.place = .here)) := by
  simp only [learnCase, hw, hx]

/-- Without an entry for the EID a learn takes the lowest empty way (R9). -/
theorem learnCase_of_empty (hw : findWay b e = none) (he : emptyWay b = some w) : learnCase b e p = .created w := by
  simp only [learnCase, hw, he]

/-- Without an entry and an empty way a learn takes the victim's way (R10). -/
theorem learnCase_of_victim (hw : findWay b e = none) (he : emptyWay b = none) (hv : victimWay b = some w) :
    learnCase b e p = .created w := by
  simp only [learnCase, hw, he, hv]

/-- With four STATIC entries and none for the EID a learn is refused (R11). -/
theorem learnCase_of_statics (hw : findWay b e = none) (he : emptyWay b = none) (hv : victimWay b = none) :
    learnCase b e p = .refused := by
  simp only [learnCase, hw, he, hv]

/-- A bucket written back leaves the table as it was. -/
@[simp] theorem putBucket_self (t : Table) (n : BucketNo) : putBucket t n t[n] = t := Vector.set_getElem_self _

/-! ## The learn claim by its case -/

section Claim

variable {s e z p w}

/-- A learn that creates an entry counts LEARN_NEW (R9, R10). -/
theorem State.learnClaim_created (h : learnCase (bucketFor s.lt e) e p = .created w) :
    s.learnClaim e z p =
      { s with
        lt := putBucket s.lt (bucketOf e) (putEntry (bucketFor s.lt e) w ⟨e, z, p, .dynamic, 0⟩)
        ec := s.ec.count .learnNew } := by
  simp only [State.learnClaim, learnBucket, h]; rfl

/-- A learn refused counts LEARN_REFUSED and changes no entry (R11). -/
theorem State.learnClaim_refused (h : learnCase (bucketFor s.lt e) e p = .refused) :
    s.learnClaim e z p = { s with ec := s.ec.count .learnRefused } := by
  simp only [State.learnClaim, learnBucket, h]
  simp only [bucketFor, putBucket_self]; rfl

/-- A learn at the entry's own place refreshes it and counts nothing (R12). -/
theorem State.learnClaim_refreshed (h : learnCase (bucketFor s.lt e) e p = .refreshed w) :
    s.learnClaim e z p =
      { s with lt := putBucket s.lt (bucketOf e) (putEntry (bucketFor s.lt e) w ⟨e, z, p, .dynamic, 0⟩) } := by
  simp only [State.learnClaim, learnBucket, h]

/-- A learn that moves an entry counts LEARN_MOVE, and notifies LOCAL_DISPLACED for a move from LOCAL to a station (R13). -/
theorem State.learnClaim_moved {fromHere : Bool} (h : learnCase (bucketFor s.lt e) e p = .moved w fromHere) :
    s.learnClaim e z p =
      { s with
        lt := putBucket s.lt (bucketOf e) (putEntry (bucketFor s.lt e) w ⟨e, z, p, .dynamic, 0⟩)
        ec := if fromHere && p != .here then (s.ec.count .learnMove).notify .localDisplaced e else s.ec.count .learnMove } := by
  simp only [State.learnClaim, learnBucket, h]
  split <;> rfl

/-- A learn of a STATIC entry changes no entry, and counts STATIC_CONFLICT where the places differ (R14). -/
theorem State.learnClaim_staticHit {conflict : Bool} (h : learnCase (bucketFor s.lt e) e p = .staticHit conflict) :
    s.learnClaim e z p = if conflict then { s with ec := s.ec.count .staticConflict } else s := by
  simp only [State.learnClaim, learnBucket, h]
  simp only [bucketFor, putBucket_self]; rfl

end Claim

/-- Settles O48, by the case the bucket gives the learn. -/
theorem learnTakesItsCase : Obligations.LearnTakesItsCase := by
  intro s e z p n b absent full created
  refine ⟨?empty, ?victim, ?statics, ?hit⟩
  case empty =>
    intro w ha hw hlow
    exact State.learnClaim_created
      (learnCase_of_empty b e p w ((findWay_eq_none b e).2 ha) ((emptyWay_eq_some b w).2 ⟨hw, hlow⟩))
  case victim =>
    intro w x ha hf hx hd hmax
    exact State.learnClaim_created (learnCase_of_victim b e p w ((findWay_eq_none b e).2 ha) ((emptyWay_eq_none b).2 hf)
      (victimWay_eq_some b w x hx hd hmax))
  case statics =>
    intro ha hf hs
    exact State.learnClaim_refused (learnCase_of_statics b e p ((findWay_eq_none b e).2 ha) ((emptyWay_eq_none b).2 hf)
      (victimWay_eq_none b hs))
  case hit =>
    intro w x hx he hu
    have hcase := learnCase_of_hit b e p w x (findWay_of_unique b e w x hx he hu) hx
    refine ⟨?_, ?_, ?_, ?_⟩
    · intro hk hp
      exact State.learnClaim_refreshed (hcase.trans (by simp [hk, hp]))
    · intro hk hp
      have hmoved : learnCase b e p = .moved w (decide (x.place = .here)) := hcase.trans (by simp [hk, hp])
      refine ⟨fun hh => ?_, fun hh => ?_⟩
      · have hne : p ≠ .here := fun h => hp (hh.trans h.symm)
        exact (State.learnClaim_moved hmoved).trans (by simp only [hh, bne_iff_ne.2 hne]; rfl)
      · exact (State.learnClaim_moved hmoved).trans (by simp only [hh]; rfl)
    · intro hk hp
      exact (State.learnClaim_staticHit (hcase.trans (if_pos hk))).trans (by simp [hp])
    · intro hk hp
      exact (State.learnClaim_staticHit (hcase.trans (if_pos hk))).trans (by simp [hp])

/-! ## The claims of management -/

variable {b e w}

/-- ADD_STATIC writes the EID's own way (R15). -/
theorem staticWay_of_hit (h : findWay b e = some w) : staticWay b e = some w := by
  simp only [staticWay, h]

/-- ADD_STATIC takes the lowest empty way (R15). -/
theorem staticWay_of_empty (h : findWay b e = none) (he : emptyWay b = some w) : staticWay b e = some w := by
  simp only [staticWay, h, he]

/-- ADD_STATIC takes what the victim search gives a full bucket (R15). -/
theorem staticWay_of_full (h : findWay b e = none) (he : emptyWay b = none) : staticWay b e = victimWay b := by
  simp only [staticWay, h, he]

end Sys2Proof.Machine
end

section
/-! A request's execution and answer (R164, R165), the codes of arguments (R120), and ADD_STATIC and REMOVE (R15, R16, R168). -/

namespace Sys2Proof.Machine

variable (s : State)

/-! ## Bytes and codes -/

/-- Two bytes put together as a number. -/
theorem word16_toNat (hi lo : Byte) : (word16 hi lo).toNat = hi.toNat * 256 + lo.toNat := by
  rw [word16, BitVec.toNat_append, ← Nat.shiftLeft_add_eq_or_of_lt lo.isLt, Nat.shiftLeft_eq]

/-- The high byte as a number. -/
theorem hiByte_toNat (w : BitVec 16) : (hiByte w).toNat = w.toNat / 256 := by
  simp [hiByte, Nat.shiftRight_eq_div_pow]
  omega

/-- The low byte as a number. -/
theorem loByte_toNat (w : BitVec 16) : (loByte w).toNat = w.toNat % 256 := by
  simp [loByte]

/-- The high byte of two bytes put together. -/
@[simp] theorem hiByte_word16 (hi lo : Byte) : hiByte (word16 hi lo) = hi := by
  apply BitVec.eq_of_toNat_eq
  rw [hiByte_toNat, word16_toNat]
  omega

/-- The low byte of two bytes put together. -/
@[simp] theorem loByte_word16 (hi lo : Byte) : loByte (word16 hi lo) = lo := by
  apply BitVec.eq_of_toNat_eq
  rw [loByte_toNat, word16_toNat]
  omega

/-- The high byte of a number. -/
theorem hiByte_ofNat (n : Nat) : hiByte (BitVec.ofNat 16 n) = BitVec.ofNat 8 (n / 256) := by
  apply BitVec.eq_of_toNat_eq
  rw [hiByte_toNat, BitVec.toNat_ofNat, BitVec.toNat_ofNat]
  omega

/-- The low byte of a number. -/
theorem loByte_ofNat (n : Nat) : loByte (BitVec.ofNat 16 n) = BitVec.ofNat 8 n := by
  apply BitVec.eq_of_toNat_eq
  rw [loByte_toNat, BitVec.toNat_ofNat, BitVec.toNat_ofNat]
  omega

/-- The bucket of an EID given by its two bytes (R2). -/
theorem bucketOf_word16 (hi lo : Byte) : bucketOf (word16 hi lo) = (hi ^^^ lo).toFin := by simp [bucketOf]

/-- The zone a byte names. -/
theorem zoneOfByte_eq_some (b : Byte) (z : Zone) : zoneOfByte b = some z ↔ b.toNat = z.val := by
  unfold zoneOfByte
  split <;> simp [Fin.ext_iff]; omega

/-- A byte above 7 names no zone. -/
theorem zoneOfByte_eq_none (b : Byte) : zoneOfByte b = none ↔ 7 < b.toNat := by
  unfold zoneOfByte
  split <;> simp <;> omega

/-- The place a code stands for. -/
theorem placeOfCode_eq_some (b : Byte) (p : Place) :
    placeOfCode b = some p ↔ (b = 0x40#8 ∧ p = .here) ∨ ∃ m : Station, b.toNat = m.val ∧ p = .station m := by
  unfold placeOfCode stationOfByte
  split
  case isTrue h =>
    subst h
    simp only [Option.some.injEq, true_and, @eq_comm _ Place.here]
    refine ⟨.inl, fun h => h.resolve_right ?_⟩
    rintro ⟨m, hm, -⟩
    have : (64#8).toNat = 64 := rfl
    omega
  case isFalse h =>
    split
    case isTrue hlt =>
      simp only [Option.map_some, Option.some.injEq, h, false_and, false_or]
      exact ⟨fun hp => ⟨_, rfl, hp.symm⟩, fun ⟨m, hm, hp⟩ => by rw [hp]; congr 1; exact Fin.ext hm⟩
    case isFalse hge =>
      simp only [Option.map_none, h, false_and, false_or, reduceCtorEq, false_iff]
      rintro ⟨m, hm, -⟩
      omega

/-- The codes that stand for no place. -/
theorem placeOfCode_eq_none (b : Byte) : placeOfCode b = none ↔ b ≠ 0x40#8 ∧ 31 < b.toNat := by
  unfold placeOfCode stationOfByte
  split
  case isTrue h => simp [h]
  case isFalse h => split <;> simp [h] <;> omega

/-! ## Execution and answer -/

/-- A request of the form of `c`, allowed where it was taken, has its own effect (R164, R165, R166). -/
theorem State.execute_allowed (c : ReqCode) (effect : State → List Byte → State) (op : OpState) (r : Request)
    (hs : s.me.stage = .taken op) (hc : s.me.current = some r) (hf : requestForm r.body = some c)
    (ha : requestAllowed c op = true) : s.execute c effect = some (effect s r.body.tail) := by
  simp [State.execute, State.takenRequest, hs, hc, hf, ha]

/-- Without the discard mark a response joins the list and is waited for (R165). -/
theorem State.answer_made (st : Status) (results : List Byte) (r : Request) (hc : s.me.current = some r)
    (hd : s.me.discardMark = false) :
    s.answer st results =
      { s with
        me.stage := .waitSend false
        cl.responses := s.cl.responses ++ [⟨r.tag, responseBody st r.body results, true⟩] } := by
  simp [State.answer, State.respond, hc, hd]

/-- A response made after a table write. -/
theorem State.answer_written (t : Table) (st : Status) (results : List Byte) (r : Request) (hc : s.me.current = some r)
    (hd : s.me.discardMark = false) :
    State.answer { s with lt := t } st results =
      { s with
        lt := t
        me.stage := .waitSend false
        cl.responses := s.cl.responses ++ [⟨r.tag, responseBody st r.body results, true⟩] } :=
  State.answer_made { s with lt := t } st results r hc hd

/-- Under the discard mark the response is discarded and the request finishes (R165). -/
theorem State.answer_discarded (st : Status) (results : List Byte) (r : Request) (hc : s.me.current = some r)
    (hd : s.me.discardMark = true) : s.answer st results = s.finishRequest := by
  simp [State.answer, State.respond, hc, hd]

/-- ADD_STATIC's execution. -/
theorem exec_addStatic : exec .addStatic s = takeEvent s (s.execute .addStatic State.doAddStatic) := rfl

/-- REMOVE's execution. -/
theorem exec_remove : exec .remove s = takeEvent s (s.execute .remove State.doRemove) := rfl

/-! ## ADD_STATIC and REMOVE -/

/-- ADD_STATIC's refusals: BROADCAST, a zone or a place that is none, the own number (R168). -/
theorem State.doAddStatic_refused (hi lo zone place : Byte)
    (h : word16 hi lo = broadcast ∨ 7 < zone.toNat ∨ (place ≠ 0x40#8 ∧ 31 < place.toNat) ∨ place.toNat = s.cf.station.val) :
    s.doAddStatic [hi, lo, zone, place] = s.answer .badArgument [] := by
  simp only [State.doAddStatic]
  split
  case h_1 z p hz hp =>
    apply if_pos
    rcases h with h | h | h | h
    · exact .inl h
    · simp [(zoneOfByte_eq_none zone).2 h] at hz
    · simp [(placeOfCode_eq_none place).2 h] at hp
    · have hown : placeOfCode place = some (.station s.cf.station) := (placeOfCode_eq_some _ _).2 (.inr ⟨_, h, rfl⟩)
      exact .inr (Option.some.inj (hp.symm.trans hown))
  case h_2 => rfl

/-- ADD_STATIC with its arguments in range makes its claim (R168). -/
theorem State.doAddStatic_claim (hi lo zone place : Byte) (z : Zone) (p : Place) (hz : zoneOfByte zone = some z)
    (hp : placeOfCode place = some p) (he : word16 hi lo ≠ broadcast) (hown : p ≠ .station s.cf.station) :
    s.doAddStatic [hi, lo, zone, place] = s.claimStatic (word16 hi lo) z p := by
  simp [State.doAddStatic, hz, hp, he, hown]

/-- ADD_STATIC's claim writes the way found and answers it (R15). -/
theorem State.claimStatic_written (e : Eid) (z : Zone) (p : Place) (w : Way) (h : staticWay (bucketFor s.lt e) e = some w) :
    s.claimStatic e z p =
      State.answer
        { s with lt := putBucket s.lt (bucketOf e) (putEntry (bucketFor s.lt e) w (staticEntry e z p)) } .ok [byteOf w] := by
  simp only [State.claimStatic, h]

/-- ADD_STATIC's claim on a bucket with no way to take answers TABLE_FULL (R15). -/
theorem State.claimStatic_full (e : Eid) (z : Zone) (p : Place) (h : staticWay (bucketFor s.lt e) e = none) :
    s.claimStatic e z p = s.answer .tableFull [] := by
  simp only [State.claimStatic, h]

/-- REMOVE empties the way found and answers it (R16). -/
theorem State.doRemove_found (hi lo : Byte) (w : Way) (h : findWay (bucketFor s.lt (word16 hi lo)) (word16 hi lo) = some w) :
    s.doRemove [hi, lo] =
      State.answer
        { s with lt := putBucket s.lt (bucketOf (word16 hi lo)) (clearWay (bucketFor s.lt (word16 hi lo)) w) }
        .ok [byteOf w] := by
  simp only [State.doRemove, h]

/-- REMOVE of an EID the table does not hold answers NOT_FOUND (R16). -/
theorem State.doRemove_missing (hi lo : Byte) (h : findWay (bucketFor s.lt (word16 hi lo)) (word16 hi lo) = none) :
    s.doRemove [hi, lo] = s.answer .notFound [] := by
  simp only [State.doRemove, h]

/-- Settles O41: the argument checks, then the way that the searches of the bucket find. -/
theorem tableWrites : Obligations.TableWrites := by
  intro s op tag hi lo zone place hr hst hd hl hc e n b answered absent first
  have hb : bucketFor s.lt e = b := by simp only [bucketFor, e, bucketOf_word16]; rfl
  have hn : bucketOf e = n := bucketOf_word16 hi lo
  constructor
  · intro hcur
    have allowed : requestAllowed .addStatic op = true := by simp [requestAllowed, hl, hc]
    have run : exec .addStatic s = .next (s.doAddStatic [hi, lo, zone, place]).arbitrate := by
      rw [exec_addStatic, s.execute_allowed _ _ op _ hst hcur rfl allowed]
      exact takeEvent_some s _ hr
    constructor
    · intro h
      rw [run, s.doAddStatic_refused hi lo zone place h, s.answer_made _ _ _ hcur hd]
      rfl
    · intro z p he hz hown hp wrote
      have claim : exec .addStatic s = .next (s.claimStatic e z p).arbitrate := by
        rw [run, s.doAddStatic_claim hi lo zone place z p ((zoneOfByte_eq_some zone z).2 hz)
          ((placeOfCode_eq_some place p).2 hp) he hown]
      have written (w : Way) (hw : staticWay b e = some w) : wrote w := by
        show exec .addStatic s = _
        rw [claim, s.claimStatic_written e z p w (hb ▸ hw), hb, hn]
        rw [s.answer_written _ _ _ _ hcur hd]
        rfl
      refine ⟨?_, ?_, ?_, ?_⟩
      · exact fun w hw => written w (staticWay_of_hit ((findWay_eq_some b e w).2 hw))
      · intro w ha hw hlow
        exact written w (staticWay_of_empty ((findWay_eq_none b e).2 ha) ((emptyWay_eq_some b w).2 ⟨hw, hlow⟩))
      · intro w x ha hf hx hk hmax
        exact written w ((staticWay_of_full ((findWay_eq_none b e).2 ha) ((emptyWay_eq_none b).2 hf)).trans
          (victimWay_eq_some b w x hx hk hmax))
      · intro ha hs
        have hf : ∀ v : Way, b[v] ≠ none := fun v h => by
          obtain ⟨y, hy, -⟩ := hs v
          simp [h] at hy
        have hk : ∀ v : Way, ∀ y ∈ b[v], y.kind = .static := fun v y hy => by
          obtain ⟨y', hy', hk⟩ := hs v
          rwa [Option.some.inj ((Option.mem_def.1 hy).symm.trans hy')]
        have none : staticWay (bucketFor s.lt e) e = none := hb ▸
          (staticWay_of_full ((findWay_eq_none b e).2 ha) ((emptyWay_eq_none b).2 hf)).trans (victimWay_eq_none b hk)
        rw [claim, s.claimStatic_full e z p none, s.answer_made _ _ _ hcur hd]
        rfl
  · intro hcur
    have allowed : requestAllowed .remove op = true := by simp [requestAllowed, hl, hc]
    have run : exec .remove s = .next (s.doRemove [hi, lo]).arbitrate := by
      rw [exec_remove, s.execute_allowed _ _ op _ hst hcur rfl allowed]
      exact takeEvent_some s _ hr
    constructor
    · intro w hw
      have found : findWay (bucketFor s.lt e) e = some w := hb ▸ (findWay_eq_some b e w).2 hw
      rw [run, s.doRemove_found hi lo w found, hb, hn]
      rw [s.answer_written _ _ _ _ hcur hd]
      rfl
    · intro ha
      have missing : findWay (bucketFor s.lt e) e = none := hb ▸ (findWay_eq_none b e).2 ha
      rw [run, s.doRemove_missing hi lo missing, s.answer_made _ _ _ hcur hd]
      rfl

end Sys2Proof.Machine
end

section
/-! The walker's bucket visit and the completion of its job (R18, R29 to R34). -/

namespace Sys2Proof.Machine

variable (s : State)

/-! ## The bucket after a visit -/

/-- A bucket is its four ways. -/
theorem bucket_eq_ofFn (b : Bucket) (f : Way → Option Entry) (h : ∀ w : Way, b[w] = f w) : b = Vector.ofFn f := by
  ext i hi : 1
  simpa using h ⟨i, hi⟩

/-- A flush, way by way (R18, R31, R32). -/
theorem flushBucket_eq (test : Entry → Bool) (b : Bucket) :
    flushBucket test b = Vector.ofFn fun w => b[w].filter fun x => !test x := rfl

/-- A sweep, way by way (R34). -/
theorem sweepBucket_eq (limit : Nat) (b : Bucket) :
    sweepBucket limit b = Vector.ofFn fun w => (b[w].filter fun x => !agedTest limit x).map stepAge :=
  bucket_eq_ofFn _ _ (sweepBucket_get limit b)

/-- Which entries a visit of the job removes (R31, R32, R34). -/
def Job.removes (limit : Nat) : Job → Entry → Bool
  | .internalFlush places => internalTest places
  | .managementFlush scope _ => scopeTest scope
  | .sweep => agedTest limit

/-- What a visit of the job makes of an entry it keeps (R34). -/
def Job.keeps : Job → Entry → Entry
  | .internalFlush _ | .managementFlush _ _ => id
  | .sweep => stepAge

/-- The bucket after a visit of the job (R18). -/
def Job.visited (j : Job) (limit : Nat) (b : Bucket) : Bucket :=
  Vector.ofFn fun w => (b[w].filter fun x => !j.removes limit x).map j.keeps

/-- The job after a visit: a management flush counts what it removed (R32). -/
def Job.counted (j : Job) (b : Bucket) : Job :=
  match j with
  | .managementFlush scope removed => .managementFlush scope (removed + countEntries (scopeTest scope) b)
  | .internalFlush places => .internalFlush places
  | .sweep => .sweep

/-- The event unit after a visit: a sweep counts what it removed (R34). -/
def Job.tallied (j : Job) (limit : Nat) (b : Bucket) (e : EventUnit) : EventUnit :=
  match j with
  | .sweep => e.countN .agedOut (countEntries (agedTest limit) b)
  | .internalFlush _ | .managementFlush _ _ => e

/-- One visit of a running job: its bucket written, its removals counted (R18, R31, R32, R34). -/
theorem State.visit_eq (j : Job) (hj : s.tw.job = some j) :
    s.visit j =
      { s with
        lt := putBucket s.lt s.tw.cursor (j.visited s.conf.ageLimit s.lt[s.tw.cursor])
        tw.job := some (j.counted s.lt[s.tw.cursor])
        ec := j.tallied s.conf.ageLimit s.lt[s.tw.cursor] s.ec } := by
  cases j with
  | internalFlush places =>
    simp only [State.visit, Job.visited, Job.counted, Job.tallied, Job.removes, Job.keeps, flushBucket_eq, ← hj,
      Option.map_id_fun, id]
  | managementFlush scope removed =>
    simp only [State.visit, Job.visited, Job.counted, Job.tallied, Job.removes, Job.keeps, flushBucket_eq, Option.map_id_fun, id]
  | sweep =>
    simp only [State.visit, Job.visited, Job.counted, Job.tallied, Job.removes, Job.keeps, sweepBucket_eq, ← hj]
    rfl

/-- BUCKET_VISIT's execution. -/
theorem exec_bucketVisit : exec .bucketVisit s = takeEvent s (s.tw.job.map fun j => (s.visit j).advanceCursor) := rfl

/-- BUCKET_VISIT with a job running (R30). -/
theorem exec_bucketVisit_running (j : Job) (hr : s.resetAsserted = false) (hj : s.tw.job = some j) :
    exec .bucketVisit s = .next (s.visit j).advanceCursor.arbitrate := by
  rw [exec_bucketVisit, hj]
  exact takeEvent_some s _ hr

/-- Before bucket 255 the cursor moves on (R30). -/
theorem State.advanceCursor_on (h : s.tw.cursor ≠ 255) :
    s.advanceCursor = { s with tw.cursor := s.tw.cursor + 1 } := if_neg h

/-- After bucket 255 the job completes (R30). -/
theorem State.advanceCursor_end (h : s.tw.cursor = 255) : s.advanceCursor = s.completeJob := if_pos h

/-- Settles O46, by the visit of each job. -/
theorem bucketIsVisited : Obligations.BucketIsVisited := by
  intro s c hr hc hcur b kept removed visited
  have step (j : Job) (hj : s.tw.job = some j) :
      exec .bucketVisit s =
        .next (State.arbitrate
          { s with
            lt := putBucket s.lt s.tw.cursor (j.visited c.ageLimit b)
            tw.job := some (j.counted b)
            tw.cursor := s.tw.cursor + 1
            ec := j.tallied c.ageLimit b s.ec }) := by
    rw [exec_bucketVisit_running s j hr hj, s.visit_eq j hj, State.advanceCursor_on _ (by exact hcur), s.conf_eq c hc]
  refine ⟨fun places hj => ?_, fun scope count hj => ?_, fun hj => ?_⟩
  · have same : (Job.internalFlush places).visited c.ageLimit b = flushBucket (internalTest places) b := by
      simp only [Job.visited, Job.removes, Job.keeps, Option.map_id_fun, id, flushBucket_eq]
    rw [step _ hj, same]
    simp only [Job.counted, ← hj]
    rfl
  · have same : (Job.managementFlush scope count).visited c.ageLimit b = flushBucket (scopeTest scope) b := by
      simp only [Job.visited, Job.removes, Job.keeps, Option.map_id_fun, id, flushBucket_eq]
    rw [step _ hj, same]
    cases scope <;> rfl
  · rw [step _ hj]
    simp only [Job.counted, ← hj]
    rfl

/-! ## The job's completion -/

/-- The next job of an engine that has just gone IDLE (R29). -/
theorem Walker.startNext_idle (w : Walker) :
    { w with job := none, cursor := 0 }.startNext =
      if w.pendingPlaces ≠ [] then
        { w with job := some (.internalFlush w.pendingPlaces), cursor := 0, pendingPlaces := [] }
      else match w.pendingFlush with
        | some scope => { w with job := some (.managementFlush scope 0), cursor := 0, pendingFlush := none }
        | none => { w with job := if w.sweepPending then some .sweep else none, cursor := 0, sweepPending := false } := by
  dsimp only [Walker.startNext]
  split
  case isTrue => rfl
  case isFalse =>
    cases hp : w.pendingFlush with
    | some scope => rfl
    | none => cases hs : w.sweepPending <;> simp [Walker.start]

/-- The part once the visit to bucket 255 is made and the engine has gone on to its next job, the response of a management flush
still to be made (R29, R30). -/
def State.jobDone (s : State) (j : Job) : State :=
  { s with
    lt := putBucket s.lt 255 (j.visited s.conf.ageLimit s.lt[(255 : BucketNo)])
    tw := { s.tw with job := none, cursor := 0 }.startNext
    ec := j.tallied s.conf.ageLimit s.lt[(255 : BucketNo)] s.ec }

/-- The visit to bucket 255 completes the job, and a management flush hands over its removed count (R30, R33). -/
theorem exec_bucketVisit_last (j : Job) (hr : s.resetAsserted = false) (hcur : s.tw.cursor = 255) (hj : s.tw.job = some j) :
    exec .bucketVisit s =
      .next (State.arbitrate
        (match j.counted s.lt[(255 : BucketNo)] with
        | .managementFlush _ removed => (s.jobDone j).flushDone removed
        | .internalFlush _ | .sweep => s.jobDone j)) := by
  rw [exec_bucketVisit_running s j hr hj, s.visit_eq j hj, State.advanceCursor_end _ (by exact hcur)]
  simp only [State.completeJob, State.jobDone, hcur]
  cases j <;> rfl

/-- A completed management flush answers its FLUSH with the removed count (R33, R169). -/
theorem State.flushDone_answers (removed : Nat) (h : s.me.stage = .waitWalk) :
    s.flushDone removed = s.answer .ok [BitVec.ofNat 8 (removed / 256), BitVec.ofNat 8 removed] := by
  rw [State.flushDone, if_pos h, hiByte_ofNat, loByte_ofNat]

/-- A request finishes with none queued (R164). -/
theorem State.finishRequest_idle (h : s.me.queue = []) : s.finishRequest = { s with me := ⟨[], none, .idle, false⟩ } := by
  simp [State.finishRequest, Management.finish, Management.takeNext, h]

/-- A request finishes and the next is taken (R164). -/
theorem State.finishRequest_next (q : Request) (qs : List Request) (h : s.me.queue = q :: qs) :
    s.finishRequest = { s with me := ⟨qs, some q, .taken s.cf.opState, false⟩ } := by
  simp [State.finishRequest, Management.finish, Management.takeNext, h]

/-- Settles O47, by the visit to the last bucket and the answer of a management flush. -/
theorem jobCompletes : Obligations.JobCompletes := by
  intro s j c hr hc hcur hj b test removed kept visited tw
  have htest : test = j.removes c.ageLimit := by
    cases j with
    | internalFlush places => rfl
    | managementFlush scope count => cases scope <;> rfl
    | sweep => rfl
  have hkept : j.visited c.ageLimit b = Vector.ofFn kept := by
    refine bucket_eq_ofFn _ _ fun w => ?_
    simp only [Job.visited, kept, htest, Fin.getElem_fin, Vector.getElem_ofFn]
    congr 1
    cases j <;> simp [Job.keeps, stepAge, funext_iff]
  have hec : j.tallied c.ageLimit b s.ec = visited.ec := by
    cases j <;> simp [visited, Job.tallied, removed, htest, Job.removes]; rfl
  have hdone : s.jobDone j = { visited with tw := tw } := by
    simp only [State.jobDone, s.conf_eq c hc, Walker.startNext_idle]
    rw [show s.lt[(255 : BucketNo)] = b from rfl, hkept, hec]
    rfl
  have run := exec_bucketVisit_last s j hr hcur hj
  refine ⟨fun hne => ?_, ?_⟩
  · rw [run, ← hdone]
    cases j with
    | managementFlush scope count => exact absurd rfl (hne scope count)
    | internalFlush places => rfl
    | sweep => rfl
  · intro scope count tag body hjm hstage hcurrent total
    have answered : exec .bucketVisit s =
        .next (State.arbitrate
          (State.answer { visited with tw := tw } .ok [BitVec.ofNat 8 (total / 256), BitVec.ofNat 8 total])) := by
      have hremoved : removed = countEntries (scopeTest scope) b := by
        subst hjm
        simp only [removed, htest]; rfl
      rw [run, ← hdone, ← State.flushDone_answers _ _ (by exact hstage)]
      subst hjm
      simp only [Job.counted, total, hremoved]; rfl
    refine ⟨fun hd => ?_, fun hd hq => ?_, fun hd q qs hq => ?_⟩
    · rw [answered, State.answer_made _ _ _ ⟨tag, body⟩ (by exact hcurrent) (by exact hd)]
      rfl
    · rw [answered, State.answer_discarded _ _ _ ⟨tag, body⟩ (by exact hcurrent) (by exact hd),
        State.finishRequest_idle _ (by exact hq)]
    · rw [answered, State.answer_discarded _ _ _ ⟨tag, body⟩ (by exact hcurrent) (by exact hd),
        State.finishRequest_next _ q qs (by exact hq)]

end Sys2Proof.Machine
end

section
/-! The part after device reset and after a warm restart (R183, R188). -/

namespace Sys2Proof.Machine

variable (s : State)

/-- The empty table holds no entry (R4). -/
theorem emptyTable_get (n : BucketNo) (w : Way) : emptyTable[n][w] = none := by simp [emptyTable]

/-- No peer is present at reset (R82). -/
theorem PeerTable.reset_get (n : Station) : PeerTable.reset.peers[n] = none := by simp [PeerTable.reset]

/-- Every counter is 0 at reset (R177). -/
theorem EventUnit.reset_counter (i : Fin 28) : EventUnit.reset.counters[i] = 0 := by simp [EventUnit.reset]

/-- Settles O3: the vectors by what they hold, the rest as it stands. -/
theorem resetValues : Obligations.ResetValues :=
  ⟨rfl, rfl, emptyTable_get, rfl, rfl, rfl, rfl, rfl, rfl, rfl, rfl, PeerTable.reset_get, rfl, rfl, rfl, rfl, rfl, rfl, rfl,
    rfl, rfl, rfl, rfl, rfl, rfl, rfl, rfl, EventUnit.reset_counter⟩

/-! ## The warm restart -/

/-- The card link at a warm restart with the link DOWN keeps all but its messages (R153). -/
theorem CardLink.warmRestart_down (c : CardLink) (h : c.link = .down) :
    c.warmRestart =
      { c with responses := [], tx := restartMessage c.tx, receiver := restartReceiver c.receiver } := by
  simp [CardLink.warmRestart, h]

/-- The card link at a warm restart with the link UP starts its grant side anew and will tell the card (R153). -/
theorem CardLink.warmRestart_up (c : CardLink) (h : c.link = .up) :
    c.warmRestart =
      { c with
        responses := [], tx := restartMessage c.tx, receiver := restartReceiver c.receiver
        grantTotal := 0, lastCredit := 0, expectedSeq := 0, statusPending := some true, restartWindow := true } := by
  simp [CardLink.warmRestart, h]

/-- Settles O37, block by block; the card link by its state. -/
theorem warmRestart : Obligations.WarmRestart := by
  intro s straps t cl
  have hcl : cl =
      { s.cl with responses := [], tx := restartMessage s.cl.tx, receiver := restartReceiver s.cl.receiver } := rfl
  refine ⟨rfl, rfl, rfl, rfl, rfl, rfl, rfl, rfl, rfl, rfl, fun h => ?_, fun h => ?_⟩
  · rw [hcl]; exact s.cl.warmRestart_down h
  · rw [hcl]; exact s.cl.warmRestart_up h

/-! ## The reset state is lawful -/

/-- Each buffer lies once on the free stack at reset, and nowhere else (R64). -/
theorem State.reset_poolWhole : State.reset.poolWhole := fun b => by
  have holders : State.reset.holders = List.finRange 64 := by
    simp [State.holders, State.reset, Pool.reset, TxSlot.bufs]
  rw [holders]
  exact List.count_eq_one_of_mem (List.nodup_finRange 64) (List.mem_finRange b)

/-- No configuration, no entry and no request at reset (R4, R163, R183). -/
theorem State.reset_configKept : State.reset.configKept := by
  simp [State.configKept, State.reset, Management.reset]

/-- No peer at reset (R82). -/
theorem State.reset_peersKept : State.reset.peersKept := by
  simp [State.peersKept, State.reset, PeerTable.reset]

/-- No entry at reset (R4). -/
theorem State.reset_tableKept : State.reset.tableKept := by
  simp [State.tableKept, State.reset, emptyTable]

/-- No decision under way at reset. -/
theorem State.reset_learnsKept : State.reset.learnsKept := by
  simp [State.learnsKept, State.reset]

/-- No decision under way at reset. -/
theorem State.reset_headsKept : State.reset.headsKept := by
  simp [State.headsKept, State.reset]

/-- Settles O60, law by law. -/
theorem resetIsLawful : Obligations.ResetIsLawful := by
  refine ⟨State.reset_poolWhole, ?reserve, ?election, ?depths, ?attempts, ?kept, ?events, ?role, ?nothing,
    State.reset_configKept, State.reset_peersKept, State.reset_learnsKept, State.reset_headsKept, State.reset_tableKept,
    ?transmitter, ?ladder, ?link, ?delivery, ?arbiter, ?engine, ?walker⟩
  case reserve =>
    simp [State.reserveMatches, State.reserveIn, State.holds, Receiver.buffer, State.reset, Pool.reset, CardLink.reset]
  case election => simp [State.electionKept, State.reset, Election.reset, BusPort.reset]
  case depths => simp [State.depthsKept, State.reset, Pool.reset]
  case attempts => simp [State.attemptsKept, State.reset, Pool.reset]
  case kept => simp [State.reserveKept, State.reset, Pool.reset]
  case events => simp [State.eventsKept, State.reset, EventUnit.reset]
  case role => simp [State.roleKept, State.reset, Election.reset]
  case nothing => simp [State.holdsNothing, State.reset, Pool.reset, TxSlot.leaving]
  case transmitter => simp [State.transmitterKept, State.reset, BusPort.reset, Pool.reset, TxSlot.sending]
  case ladder => simp [State.ladderKept, State.reset, BusPort.reset]
  case link => simp [State.linkKept, State.reset, CardLink.reset, CardLink.totals, Receiver.buffer]
  case delivery => simp [State.deliveryKept, State.reset, Pool.reset, CardLink.reset]
  case arbiter => simp [State.arbiterKept, State.reset, CardLink.reset]
  case engine =>
    simp [State.engineKept, State.engineResponses, State.managementFlushes, CardLink.busyCount, Stage.sending, State.reset,
      CardLink.reset, Management.reset, Walker.reset]
  case walker => simp [State.walkerKept, State.reset, Walker.reset]

end Sys2Proof.Machine
end

section
/-! The configuration image: its checks in order (R185), its rejection, and the end of LOADING (R186). -/

namespace Sys2Proof.Machine

variable (s : State)

/-! ## The static records (check 6 of R185) -/

/-- The record is bad by itself: BROADCAST, a zone or a place that is none, or the own number (reason 5). -/
def illRecord (own : Station) (r : Eid × Byte × Byte) : Prop :=
  r.1 = 0xFFFF#16 ∨ 7 < r.2.1.toNat ∨ (r.2.2 ≠ 0x40#8 ∧ 31 < r.2.2.toNat) ∨ r.2.2.toNat = own.val

/-- The record's EID is that of an earlier one (reason 6). -/
def repeatedRecord (raw : Nat → Eid × Byte × Byte) (k : Nat) : Prop := ∃ j < k, (raw j).1 = (raw k).1

/-- The record is at least the fifth of its bucket (reason 7). -/
def fifthRecord (raw : Nat → Eid × Byte × Byte) (k : Nat) : Prop :=
  4 ≤ (List.range k).countP fun j => bucketOf (raw j).1 == bucketOf (raw k).1

/-- The record passes its checks. -/
def goodRecord (own : Station) (raw : Nat → Eid × Byte × Byte) (k : Nat) : Prop :=
  ¬illRecord own (raw k) ∧ ¬repeatedRecord raw k ∧ ¬fifthRecord raw k

/-- The static record that the bytes of one not ill stand for. -/
def recordOf (r : Eid × Byte × Byte) : StaticRecord :=
  ⟨r.1, (zoneOfByte r.2.1).getD 0, (placeOfCode r.2.2).getD .here⟩

section Records

variable (own : Station) (raw : Nat → Eid × Byte × Byte) (k : Nat)

/-- An ill record fails with reason 5, whatever came before it. -/
theorem checkRecord_ill (before : List StaticRecord) (r : Eid × Byte × Byte) (h : illRecord own r) :
    checkRecord own before r = .error 5 := by
  unfold checkRecord
  split
  case h_1 z p hz hp =>
    apply if_pos
    rcases h with h | h | h | h
    · exact .inl h
    · simp [(zoneOfByte_eq_none _).2 h] at hz
    · simp [(placeOfCode_eq_none _).2 h] at hp
    · have hown : placeOfCode r.2.2 = some (.station own) := (placeOfCode_eq_some _ _).2 (.inr ⟨_, h, rfl⟩)
      exact .inr (Option.some.inj (hp.symm.trans hown))
  case h_2 => rfl

/-- What a record that is not ill holds. -/
theorem recordOf_spec (r : Eid × Byte × Byte) (h : ¬illRecord own r) :
    zoneOfByte r.2.1 = some (recordOf r).zone ∧ placeOfCode r.2.2 = some (recordOf r).place ∧ r.1 ≠ broadcast ∧
      (recordOf r).place ≠ .station own := by
  simp only [illRecord, not_or] at h
  obtain ⟨he, hz, hp, hown⟩ := h
  rw [← zoneOfByte_eq_none, ← ne_eq, Option.ne_none_iff_exists'] at hz
  rw [← placeOfCode_eq_none, ← ne_eq, Option.ne_none_iff_exists'] at hp
  obtain ⟨z, hz⟩ := hz
  obtain ⟨p, hp⟩ := hp
  refine ⟨by simp [recordOf, hz], by simp [recordOf, hp], he, ?_⟩
  simp only [recordOf, hp, Option.getD_some]
  rintro rfl
  rcases (placeOfCode_eq_some _ _).1 hp with ⟨-, h⟩ | ⟨m, hm, h⟩
  · cases h
  · cases h; exact hown hm

/-- A record that is not ill is checked against those before it (reasons 6 and 7). -/
theorem checkRecord_not_ill (h : ¬illRecord own (raw k)) :
    let answer := checkRecord own ((List.range k).map (recordOf ∘ raw)) (raw k)
    (repeatedRecord raw k → answer = .error 6) ∧ (¬repeatedRecord raw k → fifthRecord raw k → answer = .error 7) ∧
      (¬repeatedRecord raw k → ¬fifthRecord raw k → answer = .ok (recordOf (raw k))) := by
  obtain ⟨hz, hp, he, hown⟩ := recordOf_spec own _ h
  have hrep : (((List.range k).map (recordOf ∘ raw)).any fun r => r.eid == (raw k).1) = true ↔ repeatedRecord raw k := by
    simp [repeatedRecord, recordOf]
  have hfifth : 4 ≤ ((List.range k).map (recordOf ∘ raw)).countP (fun r => bucketOf r.eid == bucketOf (raw k).1) ↔
      fifthRecord raw k := by
    rw [List.countP_map]; rfl
  rw [← hrep, ← hfifth]
  simp only [checkRecord, hz, hp, he, hown, or_self, if_false]
  exact ⟨fun hr => if_pos hr, fun hr hf => (if_neg hr).trans (if_pos hf), fun hr hf => (if_neg hr).trans (if_neg hf)⟩

/-- The records before the last are checked first. -/
theorem checkRecords_append (i : Nat) (before : List StaticRecord) (as bs : List (Eid × Byte × Byte)) :
    checkRecords own i before (as ++ bs) =
      (checkRecords own i before as).bind fun rs => checkRecords own (i + as.length) rs bs := by
  induction as generalizing i before with
  | nil => rfl
  | cons a as ih =>
    simp only [List.cons_append, checkRecords]
    cases checkRecord own before a with
    | error reason => rfl
    | ok r => rw [List.length_cons, Nat.add_comm as.length, ← Nat.add_assoc]; exact ih _ _

/-- Records that all pass are taken in order. -/
theorem checkRecords_good (h : ∀ j < k, goodRecord own raw j) :
    checkRecords own 0 [] ((List.range k).map raw) = .ok ((List.range k).map (recordOf ∘ raw)) := by
  induction k with
  | zero => rfl
  | succ k ih =>
    obtain ⟨hill, hrep, hfifth⟩ := h k k.lt_succ_self
    simp only [List.range_succ, List.map_append, checkRecords_append, ih fun j hj => h j (hj.trans k.lt_succ_self)]
    simp [Except.bind, checkRecords, (checkRecord_not_ill own raw k hill).2.2 hrep hfifth]

/-- The first record that fails gives its reason and its index. -/
theorem checkRecords_bad (n reason : Nat) (hk : k < n) (h : ∀ j < k, goodRecord own raw j)
    (hbad : checkRecord own ((List.range k).map (recordOf ∘ raw)) (raw k) = .error reason) :
    checkRecords own 0 [] ((List.range n).map raw) = .error (reason, k) := by
  obtain ⟨m, rfl⟩ := Nat.exists_eq_add_of_lt hk
  have split : List.range (k + m + 1) = List.range k ++ k :: (List.range m).map (k + 1 + ·) := by
    rw [Nat.add_right_comm, List.range_add, List.range_succ, List.append_assoc]; rfl
  rw [split, List.map_append, checkRecords_append, checkRecords_good own raw k h]
  simp [Except.bind, checkRecords, hbad]

end Records

/-! ## The checks before the records -/

/-- CONFIG_BYTE_READ in LOADING (R184). -/
theorem exec_configByteRead (answer : Option Byte) (hr : s.resetAsserted = false) (hl : s.cf.opState = .loading) :
    exec (.configByteRead answer) s = .next (s.byteRead answer).arbitrate := by
  show takeEvent s (if s.cf.opState = .loading then some (s.byteRead answer) else none) = _
  rw [if_pos hl]
  exact takeEvent_some s _ hr

/-- The rejection as the statements write it out (R148, R185). -/
theorem State.rejectImage_eq (reason low : Nat) : s.rejectImage reason low = s.rejected reason low := rfl

/-- The first two checks: format and length (R185 checks 1 and 2). -/
theorem checkFixedPart_good (image : List Byte) (h0 : image.getD 0 0 = 0xC4#8) (hn : (image.getD 13 0).toNat ≤ 32)
    (h1 : (image.getD 1 0).toNat = 16 + 4 * (image.getD 13 0).toNat) : checkFixedPart image = none := by
  unfold checkFixedPart staticCount imageByte imageLength
  rw [if_neg (not_not.2 h0), if_neg (by omega)]

/-- An image whose fixed part fails is rejected once that part is read (R184, R185). -/
theorem State.judgeImage_fixed (image : List Byte) (reason low : Nat) (hlen : image.length = 14)
    (h : checkFixedPart image = some (reason, low)) : s.judgeImage image = s.rejected reason low := by
  unfold State.judgeImage
  rw [if_neg (by simp [hlen, fixedPart]), h]
  rfl

/-- A whole image whose fixed part passes is judged by the other checks (R184, R185). -/
theorem State.judgeImage_whole (image : List Byte) (hfixed : checkFixedPart image = none)
    (hlen : image.length = 16 + 4 * (image.getD 13 0).toNat) :
    (∀ reason low, checkImage s.cf.station image = .error (reason, low) → s.judgeImage image = s.rejected reason low) ∧
      ∀ config statics, checkImage s.cf.station image = .ok (config, statics) →
        s.judgeImage image = s.endLoading config statics := by
  have short : ¬image.length < fixedPart := by simp only [hlen, fixedPart]; omega
  have whole : ¬image.length < imageLength (staticCount image) := by rw [hlen]; exact lt_irrefl _
  constructor
  · intro reason low h
    simp only [State.judgeImage, short, if_false, hfixed, whole, h, State.rejectImage_eq]
  · intro config statics h
    simp only [State.judgeImage, short, if_false, hfixed, whole, h]

/-- A wrong sum fails with reason 1 (R185 check 4). -/
theorem checkImage_sum (own : Station) (image : List Byte) (h : wordSum image ≠ 0) : checkImage own image = .error (1, 0) :=
  if_pos h

/-- The first field out of its range fails with reason 4 and its offset (R185 check 5). -/
theorem checkImage_field (own : Station) (image : List Byte) (i : Nat) (hsum : wordSum image = 0) (h2 : 2 ≤ i) (h12 : i ≤ 12)
    (hi : fieldInRange i (image.getD i 0) = false) (hbelow : ∀ j, 2 ≤ j → j < i → fieldInRange j (image.getD j 0) = true) :
    checkImage own image = .error (4, i) := by
  have found : ((List.range' 2 11).find? fun i => !fieldInRange i (imageByte image i)) = some i := by
    rw [List.find?_range'_eq_some]
    refine ⟨by simpa [imageByte] using hi, ?_, fun j hj hlt => by simpa [imageByte] using hbelow j hj hlt⟩
    rw [List.mem_range'_1]
    omega
  rw [checkImage, if_neg (not_not.2 hsum), found]

/-- With the sum and the fields right the records decide (R185 check 6). -/
theorem checkImage_records (own : Station) (image : List Byte) (hsum : wordSum image = 0)
    (hfields : ∀ j, 2 ≤ j → j ≤ 12 → fieldInRange j (image.getD j 0) = true) :
    checkImage own image =
      (checkRecords own 0 [] ((List.range (staticCount image)).map (rawRecord image))).map fun records =>
        (configOfImage image, records) := by
  have none : ((List.range' 2 11).find? fun i => !fieldInRange i (imageByte image i)) = none := by
    rw [List.find?_range'_eq_none]
    exact fun j hj hlt => by simpa [imageByte] using hfields j hj (by omega)
  rw [checkImage, if_neg (not_not.2 hsum), none]
  cases checkRecords own 0 [] ((List.range (staticCount image)).map (rawRecord image)) <;> rfl

/-- The bucket of an EID, as a byte (R2). -/
theorem bucketOf_beq (d e : Eid) : (bucketOf d == bucketOf e) = (hiByte d ^^^ loByte d == hiByte e ^^^ loByte e) := by
  rw [Bool.eq_iff_iff, beq_iff_eq, beq_iff_eq, bucketOf, bucketOf, BitVec.toFin_inj]

/-- Settles O10: the checks in order, and the first bad record among good ones. -/
theorem imageRejected : Obligations.ImageRejected := by
  intro s b hr hl image n fixedGood
  have read : exec (.configByteRead (some b)) s = .next (s.judgeImage image).arbitrate :=
    exec_configByteRead s (some b) hr hl
  refine ⟨?ack, ?format, ?length, ?whole⟩
  case ack =>
    intro hne
    rw [exec_configByteRead s none hr hl]
    obtain ⟨x, xs, hi⟩ := List.exists_cons_of_ne_nil hne
    simp only [State.byteRead, hi, State.rejectImage_eq]
  case format =>
    intro hlen h0
    rw [read, s.judgeImage_fixed image 2 0 hlen (if_pos h0)]
  case length =>
    intro hlen h0 h
    have fails : checkFixedPart image = some (3, 0) :=
      (if_neg (not_not.2 h0)).trans (if_pos h)
    rw [read, s.judgeImage_fixed image 3 0 hlen fails]
  case whole =>
    rintro ⟨h0, hn, h1⟩ hlen
    have judged := s.judgeImage_whole image (checkFixedPart_good image h0 hn h1) hlen
    have rejects (reason low : Nat) (h : checkImage s.cf.station image = .error (reason, low)) :
        exec (.configByteRead (some b)) s = .next (State.arbitrate (s.rejected reason low)) := by
      rw [read, judged.1 reason low h]
    refine ⟨fun hsum => rejects 1 0 (checkImage_sum _ _ hsum), fun hsum => ⟨?_, ?_⟩⟩
    · exact fun i h2 h12 hi hbelow => rejects 4 i (checkImage_field _ _ i hsum h2 h12 hi hbelow)
    · intro hfields eid place bucket ill repeated fifth k hk hgood
      have hfifth (j : Nat) : fifth j ↔ fifthRecord (rawRecord image) j := by
        simp only [fifthRecord, bucketOf_beq]; rfl
      have good : ∀ j < k, goodRecord s.cf.station (rawRecord image) j := fun j hj =>
        ⟨(hgood j hj).1, (hgood j hj).2.1, fun h => (hgood j hj).2.2 ((hfifth j).2 h)⟩
      have bad (reason : Nat)
          (h : checkRecord s.cf.station ((List.range k).map (recordOf ∘ rawRecord image)) (rawRecord image k) = .error reason) :
          exec (.configByteRead (some b)) s = .next (State.arbitrate (s.rejected reason k)) := by
        apply rejects
        rw [checkImage_records _ _ hsum hfields, checkRecords_bad _ _ k (staticCount image) reason hk good h]
        rfl
      refine ⟨fun hill => bad 5 (checkRecord_ill _ _ _ hill), fun hill hrep => ?_, fun hill hrep hfive => ?_⟩
      · exact bad 6 ((checkRecord_not_ill s.cf.station (rawRecord image) k hill).1 hrep)
      · exact bad 7 ((checkRecord_not_ill s.cf.station (rawRecord image) k hill).2.1 hrep ((hfifth k).1 hfive))

/-! ## The end of LOADING (R186) -/

/-- One static record placed in the lowest empty way of its bucket (R4). -/
def placeStatic (t : Table) (r : StaticRecord) : Table :=
  match emptyWay (bucketFor t r.eid) with
  | some w => putBucket t (bucketOf r.eid) (putEntry (bucketFor t r.eid) w (staticEntry r.eid r.zone r.place))
  | none => t

/-- The static records are placed one after another (R4). -/
theorem placeStatics_eq_foldl (rs : List StaticRecord) (t : Table) : placeStatics rs t = rs.foldl placeStatic t := by
  induction rs generalizing t with
  | nil => rfl
  | cons r rs ih => exact ih _

/-- The entry a record not ill is placed as, from its bytes (R120, R131). -/
theorem staticEntry_recordOf (own : Station) (r : Eid × Byte × Byte) (h : ¬illRecord own r) :
    staticEntry (recordOf r).eid (recordOf r).zone (recordOf r).place =
      ⟨r.1, Fin.ofNat 8 r.2.1.toNat, if r.2.2 = 0x40#8 then .here else .station (Fin.ofNat 32 r.2.2.toNat), .static, 0⟩ := by
  obtain ⟨hz, hp, -, -⟩ := recordOf_spec own r h
  have zone : (recordOf r).zone = Fin.ofNat 8 r.2.1.toNat := by
    rw [(zoneOfByte_eq_some _ _).1 hz]
    simp
  have place : (recordOf r).place = if r.2.2 = 0x40#8 then .here else .station (Fin.ofNat 32 r.2.2.toNat) := by
    rcases (placeOfCode_eq_some _ _).1 hp with ⟨hc, hp⟩ | ⟨m, hm, hp⟩
    · rw [hp, if_pos hc]
    · have hc : r.2.2 ≠ 0x40#8 := fun hc => by
        have : (0x40#8).toNat = 64 := rfl
        rw [hc] at hm
        omega
      rw [hp, if_neg hc, hm]
      simp
  rw [zone, place]
  rfl

/-- Settles O11: every record is good, so that each is placed as its bytes say. -/
theorem imageAccepted : Obligations.ImageAccepted := by
  intro s b hr hl image n h0 hn h1 hlen hsum hfields eid zone place bucket hrecords entry put
  have good : ∀ k < n, goodRecord s.cf.station (rawRecord image) k := by
    intro k hk
    obtain ⟨he, hz, hp, hown, hrep, hfifth⟩ := hrecords k hk
    refine ⟨?_, fun ⟨j, hj, h⟩ => hrep j hj h, fun h => ?_⟩
    · rintro (h | h | ⟨hc, h⟩ | h)
      · exact he h
      · exact absurd hz (Nat.not_le.2 h)
      · exact absurd (hp.resolve_left hc) (Nat.not_le.2 h)
      · exact hown h
    · exact absurd hfifth (Nat.not_le.2 h)
  have accepted : checkImage s.cf.station image =
      .ok (configOfImage image, (List.range n).map (recordOf ∘ rawRecord image)) := by
    rw [checkImage_records _ _ hsum hfields, checkRecords_good s.cf.station (rawRecord image) (staticCount image) good]
    rfl
  have placed : placeStatics ((List.range n).map (recordOf ∘ rawRecord image)) s.lt = (List.range n).foldl put s.lt := by
    rw [placeStatics_eq_foldl, List.foldl_map]
    refine List.foldl_ext _ _ _ fun t k hk => ?_
    have hentry := staticEntry_recordOf s.cf.station _ (good k (List.mem_range.1 hk)).1
    have hempty : emptyWay t[bucket k] = ([0, 1, 2, 3] : List Way).find? fun w => t[bucket k][w] == none := by
      simp only [Option.beq_none]; rfl
    simp only [placeStatic, Function.comp_apply, hentry, put, ← hempty]
    rfl
  rw [exec_configByteRead s (some b) hr hl]
  show Host.Outcome.next (s.judgeImage image).arbitrate = _
  rw [(s.judgeImage_whole image (checkFixedPart_good image h0 hn h1) hlen).2 _ _ accepted]
  simp only [State.endLoading, placed]
  rfl

end Sys2Proof.Machine
end

section
/-! The forwarding engine's decisions: their ends in order (R39), the learn, the lookup and the reads of the peer table (R45 to R50,
R56 to R59). -/

namespace Sys2Proof.Machine

variable (s : State)

/-! ## The lookup (R7) -/

/-- A lookup of an EID the bucket does not hold misses. -/
theorem lookupEntry_miss (b : Bucket) (e : Eid) (h : ∀ v : Way, ∀ y ∈ b[v], y.eid ≠ e) : lookupEntry b e = none := by
  simp only [lookupEntry, (findWay_eq_none b e).2 h]

/-- A lookup of an EID that one way holds answers its entry. -/
theorem lookupEntry_hit (b : Bucket) (e : Eid) (w : Way) (x : Entry) (hx : b[w] = some x) (he : x.eid = e)
    (hu : ∀ v : Way, v ≠ w → ∀ y ∈ b[v], y.eid ≠ e) : lookupEntry b e = some x := by
  simp only [lookupEntry, findWay_of_unique b e w x hx he hu, hx]

/-! ## The learn of a decision (R8) -/

/-- A learn is issued in RUNNING with LEARN on at a place other than the own number (R3, R8). -/
theorem State.issueLearn_eq (c : Config) (hc : s.cf.config = some c) (e : Eid) (z : Zone) (p : Place) :
    s.issueLearn e z p =
      if s.cf.opState = .running ∧ c.learn = true ∧ p ≠ .station s.cf.station then s.learnClaim e z p else s := by
  rw [State.issueLearn, s.conf_eq c hc]

/-! ## Ends in order (R39) -/

/-- The push rule does not read the decisions under way. -/
theorem State.pushRule_setFe (f : Forwarding) (b : BufNo) :
    State.pushRule { s with fe := f } b = { s.pushRule b with fe := f } := by
  have deficit : State.deficit { s with fe := f } = s.deficit := rfl
  simp only [State.pushRule, deficit]
  split <;> rfl

/-- The release of a reserve buffer does not read the decisions under way. -/
theorem State.releaseReserve_setFe (f : Forwarding) (b : BufNo) :
    State.releaseReserve { s with fe := f } b = { s.releaseReserve b with fe := f } := by
  have inReserve : State.inReserve { s with fe := f } b = s.inReserve b := rfl
  simp only [State.releaseReserve, inReserve]
  split
  case isTrue => exact (s.dropReserve b).pushRule_setFe f b
  case isFalse => rfl

/-- The end of a card decision does not read which others are under way. -/
theorem State.endCard_setCard (l : List CardDecision) (d : CardDecision) (c : Counter) :
    State.endCard { s with fe.card := l } d c = { s.endCard d c with fe.card := l } := by
  have held : State.heldBy { s with fe.card := l } d = s.heldBy d := rfl
  simp only [State.endCard, held]
  cases s.heldBy d with
  | none => rfl
  | some b =>
    refine ((s.count c).releaseReserve_setFe _ b).trans ?_
    simp

/-- The decisions that end decide what stays under way. -/
theorem State.endLeading_setCard (l ds : List CardDecision) : State.endLeading { s with fe.card := l } ds = s.endLeading ds := by
  induction ds generalizing s with
  | nil => rfl
  | cons d ds ih =>
    simp only [State.endLeading]
    cases d.stage with
    | discard c => simp only [State.endCard_setCard, ih]
    | learn | lookup | peer | flood | handover => rfl

/-- A card decision goes on, and the decisions whose turn has come end. -/
theorem State.putCardStage_eq (i : Nat) (d : CardDecision) (stage : CardStage) :
    s.putCardStage i d stage = s.endLeading (s.fe.card.set i { d with stage := stage }) :=
  s.endLeading_setCard _ _

/-- A decision that is no discard stays at the head (R39). -/
theorem State.endLeading_stays (d : CardDecision) (ds : List CardDecision) (h : d.stage.isDiscard = false) :
    s.endLeading (d :: ds) = { s with fe.card := d :: ds } := by
  simp only [State.endLeading]
  cases hd : d.stage <;> simp_all [CardStage.isDiscard]

/-- A discard at the head ends, and then those behind it whose turn has come (R39, R52). -/
theorem State.endLeading_ends (d : CardDecision) (ds : List CardDecision) (k : Counter) (h : d.stage = .discard k) :
    s.endLeading (d :: ds) = (s.endCard d k).endLeading ds := by
  simp only [State.endLeading, h]

/-- A decision whose hold was cancelled counts STANDBY_DROP alone (R71; log 10). -/
theorem State.endCard_cancelled (d : CardDecision) (k : Counter) (h : d.hold = none) : s.endCard d k = s.count .standbyDrop := by
  simp [State.endCard, State.heldBy, h]

/-- A decision with its hold counts its own counter and releases its buffer (R52). -/
theorem State.endCard_held (d : CardDecision) (k : Counter) (b : BufNo) (h : d.hold = some b)
    (hb : ∃ r ∈ s.bq.reserve, r.num = b) : s.endCard d k = (s.count k).releaseReserve b := by
  have held : s.heldBy d = some b := by simpa [State.heldBy, h, State.inReserve] using hb
  simp only [State.endCard, held]

/-! ## Commands of a card decision -/

section Card

variable {s} {i : Nat} {hold : Option BufNo} {f : CardFrame}

/-- LEARN of a card decision (R45, R46). -/
theorem exec_learn_card (hr : s.resetAsserted = false) (hd : s.fe.card[i]? = some ⟨hold, .learn f⟩) :
    exec (.learn .card i) s =
      .next (State.arbitrate
        ((s.issueLearn f.srcEid f.zone .here).endLeading (s.fe.card.set i ⟨hold, afterLearnStage f⟩))) := by
  have effect : s.cardLearn i =
      some ((s.issueLearn f.srcEid f.zone .here).endLeading (s.fe.card.set i ⟨hold, afterLearnStage f⟩)) := by
    simp only [State.cardLearn, hd, State.putCardStage_eq, State.issueLearn_fe]
  show takeEvent s (s.cardLearn i) = _
  rw [effect, takeEvent_some s _ hr]

/-- What LOOKUP does of a card decision, with the stage it goes on to (R47, R48, R50). -/
theorem exec_lookup_card (hr : s.resetAsserted = false) (now next : CardStage) (hd : s.fe.card[i]? = some ⟨hold, now⟩)
    (h : now = .lookup f ∧ next = s.lookupStage f (lookupEntry (bucketFor s.lt f.dstEid) f.dstEid) ∨
      (∃ n, now = .peer f n ∧ next = s.peerStage f n) ∨ now = .flood f ∧ next = s.floodStage f) :
    exec (.lookup .card i) s = .next (State.arbitrate (s.endLeading (s.fe.card.set i ⟨hold, next⟩))) := by
  have effect : s.cardLookup i = some (s.endLeading (s.fe.card.set i ⟨hold, next⟩)) := by
    rcases h with ⟨rfl, rfl⟩ | ⟨n, rfl, rfl⟩ | ⟨rfl, rfl⟩ <;> simp only [State.cardLookup, hd, State.putCardStage_eq]
  show takeEvent s (s.cardLookup i) = _
  rw [effect, takeEvent_some s _ hr]

end Card

/-- The present peers are the entries of the table. -/
theorem mem_presentPeers (t : PeerTable) (n : Station) (p : Peer) : (n, p) ∈ presentPeers t ↔ t.peers[n] = some p := by
  simp [presentPeers, allStations]

/-- A flood has a receiver where a present peer is DESIGNATED with the zone (R50). -/
theorem State.floodHasReceiver_iff (z : Zone) :
    s.floodHasReceiver z = true ↔
      ∃ n p, s.pt.peers[(n : Station)] = some p ∧ p.role = .designated ∧ hasZone p.zones z = true := by
  simp only [State.floodHasReceiver, List.any_eq_true, Prod.exists, mem_presentPeers, Bool.and_eq_true, beq_iff_eq]

/-- Settles O50, stage by stage. -/
theorem cardDecisionGoesOn : Obligations.CardDecisionGoesOn := by
  intro s c i hold f hr hc step receiver bucket missed
  have miss (now : CardStage) (hd : s.fe.card[i]? = some ⟨hold, now⟩)
      (h : ∀ next, next = s.missStage f → exec (.lookup .card i) s = step s next) : missed := by
    refine ⟨fun hu => h _ ?_, fun hu => h _ ?_⟩ <;> simp [State.missStage, s.conf_eq c hc, hu]
  refine ⟨?learn, ?lookup, ?peer, ?flood, rfl, ?ends⟩
  case learn =>
    intro hd learned
    have hl : s.issueLearn f.srcEid f.zone .here = learned := by
      rw [s.issueLearn_eq c hc]
      simp only [learned, ne_eq, reduceCtorEq, not_false_eq_true, and_true]
    rw [exec_learn_card hr hd, hl]
    refine ⟨fun h => ?_, fun h => ?_⟩
    · rw [afterLearnStage, if_neg (by exact h)]
    · rw [afterLearnStage, if_pos (by exact h)]
  case lookup =>
    intro hd
    have goes (next : CardStage) (h : next = s.lookupStage f (lookupEntry bucket f.dstEid)) :
        exec (.lookup .card i) s = step s next := exec_lookup_card hr _ next hd (.inl ⟨rfl, h⟩)
    refine ⟨fun ha => miss _ hd fun next hn => goes next ?_, fun w x hx he hu => ⟨fun hp => goes _ ?_, fun n hp => goes _ ?_⟩⟩
    · rw [lookupEntry_miss _ _ ha, hn]; rfl
    · simp [lookupEntry_hit _ _ w x hx he hu, State.lookupStage, hp]
    · simp [lookupEntry_hit _ _ w x hx he hu, State.lookupStage, hp]
  case peer =>
    intro n hd
    have goes (next : CardStage) (h : next = s.peerStage f n) : exec (.lookup .card i) s = step s next :=
      exec_lookup_card hr _ next hd (.inr (.inl ⟨n, rfl, h⟩))
    refine ⟨fun hp => miss _ hd fun next hn => goes next ?_, fun p hp => ⟨fun hz => goes _ ?_, fun hz => goes _ ?_⟩⟩
    · simp only [State.peerStage, hp, hn]
    · simp only [State.peerStage, hp, hz, if_true]
    · simp only [State.peerStage, hp, hz, Bool.false_eq_true, if_false]
  case flood =>
    intro hd
    have goes (next : CardStage) (h : next = s.floodStage f) : exec (.lookup .card i) s = step s next :=
      exec_lookup_card hr _ next hd (.inr (.inr ⟨rfl, h⟩))
    refine ⟨fun h => goes _ ?_, fun h => goes _ ?_⟩
    · rw [State.floodStage, if_pos ((s.floodHasReceiver_iff f.zone).2 h)]
    · rw [State.floodStage, if_neg fun hf => h ((s.floodHasReceiver_iff f.zone).1 hf)]
  case ends =>
    refine fun d ds => ⟨s.endLeading_stays d ds, fun k hk => ⟨fun hn => ?_, fun b hb hin => ?_⟩⟩
    · rw [s.endLeading_ends d ds k hk, s.endCard_cancelled d k hn]
    · rw [s.endLeading_ends d ds k hk, s.endCard_held d k b hb hin]

/-! ## Commands of a backplane decision -/

section Backplane

variable {s} {i : Nat} {overtaken : Bool} {f : DataFrame}

/-- LEARN of a backplane decision (R56). -/
theorem exec_learn_backplane (hr : s.resetAsserted = false) (plan : DeliveryPlan)
    (hd : s.fe.backplane[i]? = some ⟨overtaken, .learn f plan⟩) :
    exec (.learn .backplane i) s =
      .next (State.arbitrate
        { s.issueLearn f.srcEid f.zone (.station f.source) with
          fe.backplane := (s.fe.backplane.set i ⟨overtaken, plan.proceed f⟩).dropWhile BackplaneDecision.isOver }) := by
  have effect : s.backplaneLearn i =
      some { s.issueLearn f.srcEid f.zone (.station f.source) with
        fe.backplane := (s.fe.backplane.set i ⟨overtaken, plan.proceed f⟩).dropWhile BackplaneDecision.isOver } := by
    simp only [State.backplaneLearn, hd, State.putBackplane, State.settleBackplane, State.issueLearn_fe]
  show takeEvent s (s.backplaneLearn i) = _
  rw [effect, takeEvent_some s _ hr]

/-- LOOKUP of a backplane decision (R59). -/
theorem exec_lookup_backplane (hr : s.resetAsserted = false) (hd : s.fe.backplane[i]? = some ⟨overtaken, .lookup f⟩) :
    exec (.lookup .backplane i) s =
      .next (State.arbitrate
        { s with
          fe.backplane := (s.fe.backplane.set i
            ⟨overtaken, backplaneLookup f (lookupEntry (bucketFor s.lt f.dstEid) f.dstEid)⟩).dropWhile
              BackplaneDecision.isOver }) := by
  have effect : s.backplaneLookupStep i =
      some { s with
        fe.backplane := (s.fe.backplane.set i
          ⟨overtaken, backplaneLookup f (lookupEntry (bucketFor s.lt f.dstEid) f.dstEid)⟩).dropWhile
            BackplaneDecision.isOver } := by
    simp only [State.backplaneLookupStep, hd, State.putBackplane, State.settleBackplane]
  show takeEvent s (s.backplaneLookupStep i) = _
  rw [effect, takeEvent_some s _ hr]

end Backplane

/-- Settles O51, by the decision's stage. -/
theorem backplaneDecisionGoesOn : Obligations.BackplaneDecisionGoesOn := by
  intro s c i overtaken f hr hc step bucket
  constructor
  · intro plan hd learned
    have hl : s.issueLearn f.srcEid f.zone (.station f.source) = learned := by
      rw [s.issueLearn_eq c hc]
      simp only [learned, ne_eq, Place.station.injEq]
    have run : exec (.learn .backplane i) s = step learned (plan.proceed f) := by
      rw [exec_learn_backplane hr plan hd, hl]
    exact ⟨fun h => run.trans (by rw [h]; rfl), fun h => run.trans (by rw [h]; rfl), fun h => run.trans (by rw [h]; rfl)⟩
  · intro hd
    have goes (next : BackplaneStage) (h : backplaneLookup f (lookupEntry bucket f.dstEid) = next) :
        exec (.lookup .backplane i) s = step s next := by
      rw [← h]
      exact exec_lookup_backplane hr hd
    refine ⟨fun ha => goes _ ?_, fun w x hx he hu => ⟨fun hp => goes _ ?_, fun hp => goes _ ?_⟩⟩
    · rw [lookupEntry_miss _ _ ha]; rfl
    · simp [lookupEntry_hit _ _ w x hx he hu, backplaneLookup, hp]
    · obtain ⟨n, hn⟩ : ∃ n, x.place = .station n := by
        cases hq : x.place with
        | here => exact absurd hq hp
        | station n => exact ⟨n, rfl⟩
      simp [lookupEntry_hit _ _ w x hx he hu, backplaneLookup, hn]

end Sys2Proof.Machine
end

section
/-! The laws of configuration, peer table, decisions and location table as one relation between two states, and the kinds of change
that keep them. -/

namespace Sys2Proof.Machine

/-! ## The relation -/

/-- Every law of configuration, peer table, decisions and location table that holds of `s` holds of `t`. -/
structure State.KeepsTables (s t : State) : Prop where
  config : s.configKept → t.configKept
  peers : s.peersKept → t.peersKept
  learns : s.learnsKept → t.learnsKept
  heads : s.headsKept → t.headsKept
  table : s.configKept → s.learnsKept → s.tableKept → t.tableKept

/-- What does not change keeps the laws. -/
theorem State.KeepsTables.refl (s : State) : s.KeepsTables s := ⟨id, id, id, id, fun _ _ => id⟩

/-- One change after another keeps the laws. -/
theorem State.KeepsTables.trans {s t u : State} (h : s.KeepsTables t) (h' : t.KeepsTables u) : s.KeepsTables u where
  config hs := h'.config (h.config hs)
  peers hs := h'.peers (h.peers hs)
  learns hs := h'.learns (h.learns hs)
  heads hs := h'.heads (h.heads hs)
  table hc hl ht := h'.table (h.config hc) (h.learns hl) (h.table hc hl ht)

/-- The blocks that these laws read. -/
def State.tableBlocks (s : State) : Loader × Table × Vector (Option Peer) 32 × Forwarding × Management :=
  (s.cf, s.lt, s.pt.peers, s.fe, s.me)

/-- The blocks of a state given by its parts. -/
@[simp] theorem State.tableBlocks_mk (r : Bool) (cf : Loader) (lt : Table) (tw : Walker) (fe : Forwarding) (bq : Pool)
    (pt : PeerTable) (eu : Election) (bp : BusPort) (cl : CardLink) (me : Management) (ec : EventUnit) (pending : List Instr) :
    (State.mk r cf lt tw fe bq pt eu bp cl me ec pending).tableBlocks = (cf, lt, pt.peers, fe, me) := rfl

/-- The blocks put together from a state's own. -/
@[simp] theorem State.tableBlocks_eta (s : State) : (s.cf, s.lt, s.pt.peers, s.fe, s.me) = s.tableBlocks := rfl

/-- Two states agree in the blocks. -/
theorem State.tableBlocks_eq {s t : State} :
    t.tableBlocks = s.tableBlocks ↔
      t.cf = s.cf ∧ t.lt = s.lt ∧ t.pt.peers = s.pt.peers ∧ t.fe = s.fe ∧ t.me = s.me := by
  simp only [State.tableBlocks, Prod.mk.injEq]

/-! ## What keeps each law -/

section Laws

variable {s t : State}

/-- No image is in force in the operating state (section 12.1). -/
def OpState.blind (op : OpState) : Prop := op = .loading ∨ op = .configFault

/-- The figures in force depend on the configuration and the station number. -/
theorem State.conf_congr (hconfig : t.cf.config = s.cf.config) (hstation : t.cf.station = s.cf.station) : t.conf = s.conf := by
  simp only [State.conf, hconfig, hstation]

/-- The table's law reads the table, the configuration and the station number. -/
theorem State.tableKept_congr (hconfig : t.cf.config = s.cf.config) (hstation : t.cf.station = s.cf.station)
    (hlt : t.lt = s.lt) (h : s.tableKept) : t.tableKept := by
  simpa only [State.tableKept, State.entryKept, State.conf_congr hconfig hstation, hstation, hlt] using h

/-- The peer table's law reads its entries and the station number. -/
theorem State.peersKept_congr (hstation : t.cf.station = s.cf.station) (hpeers : t.pt.peers = s.pt.peers) (h : s.peersKept) :
    t.peersKept := by
  simpa only [State.peersKept, hstation, hpeers] using h

/-- The laws of the decisions read the decisions. -/
theorem State.learnsKept_congr (hfe : t.fe = s.fe) (h : s.learnsKept) : t.learnsKept := by
  simpa only [State.learnsKept, hfe] using h

/-- The laws of the decisions read the decisions. -/
theorem State.headsKept_congr (hfe : t.fe = s.fe) (h : s.headsKept) : t.headsKept := by
  simpa only [State.headsKept, hfe] using h

/-- Without an image in force no table entry stands (R4). -/
theorem State.configKept_empty (h : s.configKept) (hop : s.cf.opState.blind) : s.cf.config = none ∧ s.lt = emptyTable :=
  have hnone := h.2.1.2 hop
  ⟨hnone, (h.2.2 hnone).1⟩

/-- The empty table meets its law. -/
theorem State.tableKept_of_empty (h : s.lt = emptyTable) : s.tableKept := by
  intro n w x hx
  rw [h, emptyTable_get] at hx
  cases hx

/-! ## Kinds of change -/

/-- The laws are kept where configuration, station number, table, peers and decisions stay, the operating state does not pass between
the states with an image and those without, and a request is taken only in the state standing. -/
theorem State.KeepsTables.of_frame (hconfig : t.cf.config = s.cf.config) (hstation : t.cf.station = s.cf.station)
    (hblind : t.cf.opState.blind ↔ s.cf.opState.blind) (hlt : t.lt = s.lt) (hpeers : t.pt.peers = s.pt.peers)
    (hfe : t.fe = s.fe) (hstage : ∀ op, t.me.stage = .taken op → s.me.stage = .taken op ∨ op = s.cf.opState) :
    s.KeepsTables t where
  config := by
    rintro ⟨hrange, hnone, hempty⟩
    refine ⟨hconfig ▸ hrange, ?_, fun h => ?_⟩
    · rw [hconfig, hnone]; exact hblind.symm
    · rw [hconfig] at h
      obtain ⟨he, hs⟩ := hempty h
      refine ⟨hlt.trans he, fun op hop => ?_⟩
      rcases hstage op hop with hop | rfl
      · exact hs op hop
      · exact hnone.1 h
  peers := State.peersKept_congr hstation hpeers
  learns := State.learnsKept_congr hfe
  heads := State.headsKept_congr hfe
  table _ _ := State.tableKept_congr hconfig hstation hlt

/-- The laws are kept where nothing they read changes but the engine's stage. -/
theorem State.KeepsTables.of_stage (hcf : t.cf = s.cf) (hlt : t.lt = s.lt) (hpeers : t.pt.peers = s.pt.peers) (hfe : t.fe = s.fe)
    (hstage : ∀ op, t.me.stage = .taken op → s.me.stage = .taken op ∨ op = s.cf.opState) : s.KeepsTables t :=
  .of_frame (by rw [hcf]) (by rw [hcf]) (by rw [hcf]) hlt hpeers hfe hstage

/-- The laws are kept where nothing they read changes. -/
theorem State.KeepsTables.of_blocks (h : t.tableBlocks = s.tableBlocks) : s.KeepsTables t := by
  obtain ⟨hcf, hlt, hpeers, hfe, hme⟩ := State.tableBlocks_eq.1 h
  exact .of_stage hcf hlt hpeers hfe fun _ hop => .inl (hme ▸ hop)

/-- What keeps the laws of a state with the same blocks keeps them. -/
theorem State.KeepsTables.after {u : State} (h : t.KeepsTables u) (ht : t.tableBlocks = s.tableBlocks) : s.KeepsTables u :=
  (KeepsTables.of_blocks ht).trans h

/-- What keeps the laws keeps them of every state with the same blocks. -/
theorem State.KeepsTables.andThen {u : State} (h : s.KeepsTables t) (hu : u.tableBlocks = t.tableBlocks) : s.KeepsTables u :=
  h.trans (.of_blocks hu)

/-- A change of the peer table alone keeps the laws where it keeps its own. -/
theorem State.KeepsTables.of_peers (hcf : t.cf = s.cf) (hlt : t.lt = s.lt) (hfe : t.fe = s.fe) (hme : t.me = s.me)
    (hpeers : s.peersKept → t.peersKept) : s.KeepsTables t :=
  -- every other law is that of the state with the old peers put back
  have back : s.KeepsTables { t with pt := s.pt } := .of_stage hcf hlt rfl hfe fun _ hop => .inl (hme ▸ hop)
  ⟨back.config, hpeers, back.learns, back.heads, back.table⟩

/-- A change of the decisions alone keeps the laws where it keeps theirs. -/
theorem State.KeepsTables.of_decisions (hcf : t.cf = s.cf) (hlt : t.lt = s.lt) (hpeers : t.pt.peers = s.pt.peers)
    (hme : t.me = s.me) (hlearns : s.learnsKept → t.learnsKept) (hheads : s.headsKept → t.headsKept) : s.KeepsTables t :=
  have back : s.KeepsTables { t with fe := s.fe } := .of_stage hcf hlt hpeers rfl fun _ hop => .inl (hme ▸ hop)
  ⟨back.config, back.peers, hlearns, hheads, back.table⟩

/-- A change of the location table alone keeps the laws where it keeps its own, and leaves it empty without an image in force. -/
theorem State.KeepsTables.of_table (hcf : t.cf = s.cf) (hpeers : t.pt.peers = s.pt.peers) (hfe : t.fe = s.fe) (hme : t.me = s.me)
    (hempty : s.configKept → s.cf.config = none → t.lt = emptyTable)
    (htable : s.configKept → s.learnsKept → s.tableKept → t.tableKept) : s.KeepsTables t :=
  have back : s.KeepsTables { t with lt := s.lt } := .of_stage hcf rfl hpeers hfe fun _ hop => .inl (hme ▸ hop)
  { config := fun hs => by
      obtain ⟨hrange, hnone, hstart⟩ := back.config hs
      exact ⟨hrange, hnone, fun h => ⟨hempty hs (hcf ▸ h), (hstart h).2⟩⟩
    peers := back.peers
    learns := back.learns
    heads := back.heads
    table := htable }

/-- A start keeps the laws: LOADING without an image, an entry, a peer or a request taken (R4, R82, R163, R183). -/
theorem State.KeepsTables.of_start (hconfig : t.cf.config = none) (hop : t.cf.opState = .loading) (hlt : t.lt = emptyTable)
    (hpeers : ∀ n : Station, t.pt.peers[n] = none) (hstage : ∀ op, t.me.stage ≠ .taken op)
    (hlearns : s.learnsKept → t.learnsKept) (hheads : s.headsKept → t.headsKept) : s.KeepsTables t where
  config _ := by
    refine ⟨?_, ?_, fun _ => ⟨hlt, fun op h => absurd h (hstage op)⟩⟩
    · intro c hc
      rw [hconfig] at hc
      cases hc
    · simp only [hconfig, hop, true_or]
  peers _ := ⟨hpeers _, fun n p hp => by rw [hpeers n] at hp; cases hp⟩
  learns := hlearns
  heads := hheads
  table _ _ _ := State.tableKept_of_empty hlt

end Laws

/-! ## One bucket of the location table -/

section Buckets

variable (s : State) (n : BucketNo) (b : Bucket)

/-- The law of the table on one bucket (R1, R2, R3). -/
def State.bucketKept (s : State) (n : BucketNo) (b : Bucket) : Prop :=
  ∀ w : Way, ∀ x ∈ b[w], bucketOf x.eid = n ∧ s.entryKept x ∧ ∀ v : Way, ∀ y ∈ b[v], y.eid = x.eid → v = w

variable {s n b}

/-- A table with one bucket written meets its law where the bucket does. -/
theorem State.tableKept_putBucket (h : s.tableKept) (hb : s.bucketKept n b) {t : State} (hcf : t.cf = s.cf)
    (hlt : t.lt = putBucket s.lt n b) : t.tableKept := by
  have kept : State.tableKept { s with lt := putBucket s.lt n b } := by
    intro m
    show s.bucketKept m (putBucket s.lt n b)[m]
    by_cases hm : m = n
    · rw [hm, putBucket_same]; exact hb
    · rw [putBucket_other _ _ _ _ hm]; exact h m
  exact State.tableKept_congr (by rw [hcf]) (by rw [hcf]) hlt kept

/-- Where each way keeps its entry, with its EID, or loses it, the bucket keeps its law. -/
theorem State.bucketKept_of_ways (h : s.bucketKept n b) (b' : Bucket)
    (hways : ∀ w : Way, ∀ y ∈ b'[w], ∃ x ∈ b[w], y.eid = x.eid ∧ (s.entryKept x → s.entryKept y)) : s.bucketKept n b' := by
  intro w y hy
  obtain ⟨x, hx, he, hkept⟩ := hways w y hy
  obtain ⟨hbucket, hentry, honce⟩ := h w x hx
  refine ⟨he ▸ hbucket, hkept hentry, fun v y' hy' heq => ?_⟩
  obtain ⟨x', hx', he', -⟩ := hways v y' hy'
  exact honce v x' hx' (by rw [← he', heq, he])

/-- An emptied way keeps the bucket's law (R16, R18). -/
theorem State.bucketKept_clearWay (h : s.bucketKept n b) (w : Way) : s.bucketKept n (clearWay b w) := by
  refine State.bucketKept_of_ways h _ fun v y hy => ?_
  rw [clearWay_get] at hy
  split at hy
  · cases hy
  · exact ⟨y, hy, rfl, id⟩

/-- An entry of the bucket, sound and held nowhere else, keeps the bucket's law wherever it is written. -/
theorem State.bucketKept_putEntry (h : s.bucketKept n b) (w : Way) (x : Entry) (hx : bucketOf x.eid = n) (hentry : s.entryKept x)
    (honce : ∀ v : Way, ∀ y ∈ b[v], y.eid = x.eid → v = w) : s.bucketKept n (putEntry b w x) := by
  intro u y hy
  rw [putEntry_get] at hy
  have others (v : Way) (y' : Entry) (hy' : y' ∈ (putEntry b w x)[v]) :
      (v = w ∧ y' = x) ∨ (v ≠ w ∧ y' ∈ b[v]) := by
    rw [putEntry_get] at hy'
    split at hy'
    case isTrue hv => exact .inl ⟨hv, (Option.some.inj hy').symm⟩
    case isFalse hv => exact .inr ⟨hv, hy'⟩
  split at hy
  case isTrue hu =>
    obtain rfl : x = y := Option.some.inj hy
    refine ⟨hx, hentry, fun v y' hy' heq => ?_⟩
    rcases others v y' hy' with ⟨hv, -⟩ | ⟨-, hy'⟩
    · rw [hv, hu]
    · rw [honce v y' hy' heq, hu]
  case isFalse hu =>
    obtain ⟨hbucket, hkept, hunique⟩ := h u y hy
    refine ⟨hbucket, hkept, fun v y' hy' heq => ?_⟩
    rcases others v y' hy' with ⟨-, rfl⟩ | ⟨-, hy'⟩
    · exact absurd (honce u y hy heq.symm) hu
    · exact hunique v y' hy' heq

/-- Where the EID is found, it is in no other way. -/
theorem State.bucketKept_found (h : s.bucketKept n b) {e : Eid} {w : Way} (hw : findWay b e = some w) :
    ∀ v : Way, ∀ y ∈ b[v], y.eid = e → v = w := by
  obtain ⟨x, hx, rfl⟩ := findWay_some b e w hw
  exact (h w x hx).2.2

/-- The step of an age below AGE_LIMIT keeps the entry sound (R34). -/
theorem State.entryKept_stepAge {x : Entry} (h : s.entryKept x) (hage : agedTest s.conf.ageLimit x = false) :
    s.entryKept (stepAge x) := by
  obtain ⟨he, hp, ha⟩ := h
  unfold stepAge
  split
  case isTrue hd =>
    have young : x.age ≠ s.conf.ageLimit := by simpa [agedTest, hd] using hage
    refine ⟨he, hp, ?_⟩
    simp only [hd, reduceCtorEq, if_false] at ha ⊢
    omega
  case isFalse => exact ⟨he, hp, ha⟩

/-- The step of an age leaves the EID. -/
@[simp] theorem stepAge_eid (x : Entry) : (stepAge x).eid = x.eid := by
  unfold stepAge; split <;> rfl

/-- What stands in each way after a visit of the job (R18). -/
theorem Job.visited_get (j : Job) (limit : Nat) (b : Bucket) (w : Way) :
    (j.visited limit b)[w] = (b[w].filter fun x => !j.removes limit x).map j.keeps := by
  simp [Job.visited]

/-- A visit keeps the bucket's law: what a sweep leaves is below AGE_LIMIT before its step (R18, R31, R32, R34). -/
theorem State.bucketKept_visited (h : s.bucketKept n b) (j : Job) : s.bucketKept n (j.visited s.conf.ageLimit b) := by
  refine State.bucketKept_of_ways h _ fun w y hy => ?_
  rw [Job.visited_get, Option.mem_def, Option.map_eq_some_iff] at hy
  obtain ⟨x, hx, rfl⟩ := hy
  rw [Option.filter_eq_some_iff] at hx
  cases j with
  | internalFlush places => exact ⟨x, hx.1, rfl, id⟩
  | managementFlush scope count => exact ⟨x, hx.1, rfl, id⟩
  | sweep =>
    exact ⟨x, hx.1, stepAge_eid x, fun hkept => State.entryKept_stepAge hkept (by simpa [Job.removes] using hx.2)⟩

/-- A table that holds nothing is the empty one. -/
theorem table_eq_empty (t : Table) (h : ∀ (n : BucketNo) (w : Way), t[n][w] = none) : t = emptyTable := by
  apply Vector.ext
  intro i hi
  apply Vector.ext
  intro k hk
  simpa [emptyTable] using h ⟨i, hi⟩ ⟨k, hk⟩

/-- A write of the empty table that fills no way leaves it empty. -/
theorem putBucket_emptyTable (n : BucketNo) (b : Bucket) (h : ∀ w : Way, b[w] = none) :
    putBucket emptyTable n b = emptyTable := by
  refine table_eq_empty _ fun m w => ?_
  by_cases hm : m = n
  · rw [hm, putBucket_same]; exact h w
  · rw [putBucket_other _ _ _ _ hm]; exact emptyTable_get m w

/-- The way a learn writes is the EID's own, or the EID stands in no way (R9 to R13). -/
theorem learnCase_written (e : Eid) (p : Place) (w : Way)
    (h : learnCase b e p = .created w ∨ learnCase b e p = .refreshed w ∨ ∃ fromHere, learnCase b e p = .moved w fromHere) :
    findWay b e = none ∨ findWay b e = some w := by
  unfold learnCase at h
  split at h
  case h_1 v hv =>
    split at h
    · repeat' split at h
      all_goals simp_all
    · simp_all
  case h_2 hnone => exact .inl hnone

/-- A learn of an EID other than BROADCAST at a place other than the own number keeps the bucket's law (R3, R8). -/
theorem State.bucketKept_learnBucket (h : s.bucketKept n b) (e : Eid) (z : Zone) (p : Place) (hn : bucketOf e = n)
    (he : e ≠ broadcast) (hp : p ≠ .station s.cf.station) : s.bucketKept n (learnBucket b e z p) := by
  have written (w : Way) (hw : findWay b e = none ∨ findWay b e = some w) :
      s.bucketKept n (putEntry b w ⟨e, z, p, .dynamic, 0⟩) := by
    refine State.bucketKept_putEntry h w _ hn ⟨he, hp, Nat.zero_le _⟩ fun v y hy heq => ?_
    rcases hw with hw | hw
    · exact absurd heq ((findWay_eq_none b e).1 hw v y hy)
    · exact State.bucketKept_found h hw v y hy heq
  unfold learnBucket
  split
  case h_1 w hc => exact written w (learnCase_written e p w (.inl hc))
  case h_2 w hc => exact written w (learnCase_written e p w (.inr (.inl hc)))
  case h_3 w fromHere hc => exact written w (learnCase_written e p w (.inr (.inr ⟨fromHere, hc⟩)))
  case h_4 => exact h
  case h_5 => exact h

/-- The way ADD_STATIC writes is the EID's own, or the EID stands in no way (R15). -/
theorem staticWay_written (e : Eid) (w : Way) (h : staticWay b e = some w) : findWay b e = none ∨ findWay b e = some w := by
  cases hf : findWay b e with
  | none => exact .inl rfl
  | some v => exact .inr ((staticWay_of_hit hf).symm.trans h)

/-- A STATIC entry of an EID other than BROADCAST at a place other than the own number keeps the bucket's law (R3, R15). -/
theorem State.bucketKept_staticEntry (h : s.bucketKept n b) (e : Eid) (z : Zone) (p : Place) (w : Way) (hn : bucketOf e = n)
    (he : e ≠ broadcast) (hp : p ≠ .station s.cf.station) (hw : findWay b e = none ∨ findWay b e = some w) :
    s.bucketKept n (putEntry b w (staticEntry e z p)) := by
  refine State.bucketKept_putEntry h w _ hn ⟨he, hp, Nat.zero_le _⟩ fun v y hy heq => ?_
  rcases hw with hw | hw
  · exact absurd heq ((findWay_eq_none b e).1 hw v y hy)
  · exact State.bucketKept_found h hw v y hy heq

end Buckets

end Sys2Proof.Machine
end

section
/-! The operations that leave configuration, location table, peer entries, decisions and engine as they were. -/

namespace Sys2Proof.Machine

variable (s : State)

/-! ## Counters and events, the walker's requests -/

@[simp] theorem State.count_tableBlocks (c : Counter) : (s.count c).tableBlocks = s.tableBlocks := rfl
@[simp] theorem State.countN_tableBlocks (c : Counter) (n : Nat) : (s.countN c n).tableBlocks = s.tableBlocks := rfl
@[simp] theorem State.notify_tableBlocks (k : EventKind) (a : BitVec 16) : (s.notify k a).tableBlocks = s.tableBlocks := rfl
@[simp] theorem State.raiseAlarm_tableBlocks (k : EventKind) (a : BitVec 16) :
    (s.raiseAlarm k a).tableBlocks = s.tableBlocks := rfl
@[simp] theorem State.requestFlush_tableBlocks (ps : List Place) : (s.requestFlush ps).tableBlocks = s.tableBlocks := rfl
@[simp] theorem State.refuse_tableBlocks (cause : Nat) (v : Byte) : (s.refuse cause v).tableBlocks = s.tableBlocks := rfl

/-! ## Buffers -/

@[simp] theorem State.dropReserve_tableBlocks (b : BufNo) : (s.dropReserve b).tableBlocks = s.tableBlocks := rfl
@[simp] theorem State.setReserve_tableBlocks (b : BufNo) (r : ReserveState) :
    (s.setReserve b r).tableBlocks = s.tableBlocks := rfl
@[simp] theorem State.writeBuffer_tableBlocks (b : BufNo) (p : List Byte) :
    (s.writeBuffer b p).tableBlocks = s.tableBlocks := rfl
@[simp] theorem State.topUp_tableBlocks : s.topUp.tableBlocks = s.tableBlocks := rfl

@[simp] theorem State.pushRule_tableBlocks (b : BufNo) : (s.pushRule b).tableBlocks = s.tableBlocks := by
  simp [State.tableBlocks_eq]

@[simp] theorem State.releaseReserve_tableBlocks (b : BufNo) : (s.releaseReserve b).tableBlocks = s.tableBlocks := by
  simp [State.tableBlocks_eq]

@[simp] theorem State.storeBody_tableBlocks (m : DataOutMode) (p : List Byte) :
    (s.storeBody m p).tableBlocks = s.tableBlocks := by
  simp [State.tableBlocks_eq]

@[simp] theorem State.discardAll_tableBlocks (c : Counter) (bs : List BufNo) :
    (s.discardAll c bs).tableBlocks = s.tableBlocks := by
  rw [State.discardAll_eq]; rfl

@[simp] theorem State.departTransmit_tableBlocks : s.departTransmit.tableBlocks = s.tableBlocks := by
  rw [State.departTransmit_eq]
  exact s.discardAll_tableBlocks _ _

@[simp] theorem State.emptyDelivery_tableBlocks (c : Counter) : (s.emptyDelivery c).tableBlocks = s.tableBlocks := by
  simp [State.emptyDelivery]

@[simp] theorem State.departure_tableBlocks : s.departure.tableBlocks = s.tableBlocks := by
  simp [State.departure]

@[simp] theorem State.freeLost_tableBlocks (d : Nat) : (s.freeLost d).tableBlocks = s.tableBlocks := by
  induction d generalizing s with
  | zero => rfl
  | succ d ih =>
    simp only [State.freeLost]
    split
    · simp [ih]
    · rfl

@[simp] theorem State.emptyDeliverySlot_tableBlocks : s.emptyDeliverySlot.tableBlocks = s.tableBlocks := by
  unfold State.emptyDeliverySlot
  split <;> simp

/-! ## The election and the reports -/

@[simp] theorem State.loadAnnounce_tableBlocks : s.loadAnnounce.tableBlocks = s.tableBlocks := rfl
@[simp] theorem State.statusRequest_tableBlocks : s.statusRequest.tableBlocks = s.tableBlocks := rfl
@[simp] theorem State.quitDesignated_tableBlocks (r : Role) : (s.quitDesignated r).tableBlocks = s.tableBlocks := rfl

@[simp] theorem State.refreshDesignated_tableBlocks : s.refreshDesignated.tableBlocks = s.tableBlocks := by
  simp [State.tableBlocks_eq]

@[simp] theorem State.announceRole_tableBlocks (l : Role) : (s.announceRole l).tableBlocks = s.tableBlocks := by
  simp [State.tableBlocks_eq]

@[simp] theorem State.enterListening_tableBlocks : s.enterListening.tableBlocks = s.tableBlocks := by
  simp [State.tableBlocks_eq]

@[simp] theorem State.stepDown_tableBlocks : s.stepDown.tableBlocks = s.tableBlocks := by
  simp [State.stepDown]

@[simp] theorem State.withdraw_tableBlocks : s.withdraw.tableBlocks = s.tableBlocks := by
  simp [State.withdraw]

@[simp] theorem State.becomeDesignated_tableBlocks : s.becomeDesignated.tableBlocks = s.tableBlocks := by
  simp [State.becomeDesignated]

@[simp] theorem State.becomeStandby_tableBlocks : s.becomeStandby.tableBlocks = s.tableBlocks := by
  simp [State.becomeStandby]

@[simp] theorem State.roleDown_tableBlocks : s.roleDown.tableBlocks = s.tableBlocks := by
  unfold State.roleDown
  split <;> simp

@[simp] theorem State.roleSilent_tableBlocks : s.roleSilent.tableBlocks = s.tableBlocks := by
  unfold State.roleSilent
  split <;> simp

@[simp] theorem State.endListening_tableBlocks : s.endListening.tableBlocks = s.tableBlocks := by
  simp only [State.endListening]
  split <;> simp

@[simp] theorem State.noteDesignated_tableBlocks (k : ReportKind) (n : Station) (p : Option Peer) :
    (s.noteDesignated k n p).tableBlocks = s.tableBlocks := by
  unfold State.noteDesignated
  (repeat' split) <;> rfl

@[simp] theorem State.resolveDual_tableBlocks (k : ReportKind) (n : Station) (p : Peer) :
    (s.resolveDual k n p).tableBlocks = s.tableBlocks := by
  unfold State.resolveDual
  (repeat' split) <;> simp

@[simp] theorem State.actOnReport_tableBlocks (k : ReportKind) (n : Station) (p q : Option Peer) :
    (s.actOnReport k n p q).tableBlocks = s.tableBlocks := by
  unfold State.actOnReport
  (repeat' split) <;> simp

@[simp] theorem State.report_tableBlocks (k : ReportKind) (n : Station) (p q : Option Peer) :
    (s.report k n p q).tableBlocks = s.tableBlocks := by
  simp [State.report]

@[simp] theorem State.reportRemoved_tableBlocks (xs : List (Station × Peer)) :
    (s.reportRemoved xs).tableBlocks = s.tableBlocks := by
  induction xs generalizing s with
  | nil => rfl
  | cons x xs ih => simp [State.reportRemoved, ih]

@[simp] theorem State.notifyDown_tableBlocks (xs : List (Station × Peer)) : (s.notifyDown xs).tableBlocks = s.tableBlocks := by
  induction xs generalizing s with
  | nil => rfl
  | cons x xs ih => simp [State.notifyDown, ih]

@[simp] theorem State.notifyPeer_tableBlocks (n : Station) (p : Option Peer) (r : Role) :
    (s.notifyPeer n p r).tableBlocks = s.tableBlocks := by
  unfold State.notifyPeer
  (repeat' split) <;> simp

@[simp] theorem State.notifyInterval_tableBlocks (n : Station) (p : Option Peer) (i : Nat) :
    (s.notifyInterval n p i).tableBlocks = s.tableBlocks := by
  unfold State.notifyInterval
  split <;> simp

@[simp] theorem State.flushPeer_tableBlocks (n : Station) (p : Option Peer) (r : Role) :
    (s.flushPeer n p r).tableBlocks = s.tableBlocks := by
  unfold State.flushPeer
  split <;> simp

@[simp] theorem State.flushPrevious_tableBlocks (n : Station) (p : Option Station) :
    (s.flushPrevious n p).tableBlocks = s.tableBlocks := by
  unfold State.flushPrevious
  (repeat' split) <;> simp

/-! ## The card link -/

@[simp] theorem State.send_tableBlocks (m : OutMessage) : (s.send m).tableBlocks = s.tableBlocks := rfl
@[simp] theorem State.messageSent_tableBlocks : s.messageSent.tableBlocks = s.tableBlocks := rfl

@[simp] theorem State.arbitrate_tableBlocks : s.arbitrate.tableBlocks = s.tableBlocks := by
  rcases s.arbitrate_cases with h | ⟨-, -, ⟨f, h⟩ | h | ⟨r, rs, -, h⟩ | ⟨e, es, -, h⟩ | ⟨r, rs, body, -, -, h⟩ | h⟩ <;>
    rw [h] <;> rfl

@[simp] theorem State.linkUp_tableBlocks : s.linkUp.tableBlocks = s.tableBlocks := by
  simp only [State.linkUp]
  split <;> simp

@[simp] theorem State.goodMessage_tableBlocks : s.goodMessage.tableBlocks = s.tableBlocks := by
  have read : State.tableBlocks { s with cl.receiver := .header [] } = s.tableBlocks := rfl
  simp only [State.goodMessage]
  split
  · exact (State.linkUp_tableBlocks _).trans read
  · exact read

@[simp] theorem State.acceptSequence_tableBlocks (t : Byte) (d : Nat) : (s.acceptSequence t d).tableBlocks = s.tableBlocks :=
  s.freeLost_tableBlocks d

@[simp] theorem State.refuseSequence_tableBlocks (b : BufNo) (c : Nat) (t : Byte) :
    (s.refuseSequence b c t).tableBlocks = s.tableBlocks := rfl

@[simp] theorem State.takeBadDataOut_tableBlocks (t : Byte) (m : DataOutMode) :
    (s.takeBadDataOut t m).tableBlocks = s.tableBlocks := by
  unfold State.takeBadDataOut
  (repeat' split) <;> simp

@[simp] theorem State.receiveHeader_tableBlocks (h : LinkHeader) (a : List Byte) :
    (s.receiveHeader h a).tableBlocks = s.tableBlocks := by
  unfold State.receiveHeader
  split
  · refine (State.storeBody_tableBlocks _ s.dataOutMode _).trans ?_
    split <;> rfl
  · rfl

@[simp] theorem State.takeAccept_tableBlocks (t : Byte) : (s.takeAccept t).tableBlocks = s.tableBlocks := by
  unfold State.takeAccept
  split <;> rfl

@[simp] theorem State.endDataIn_tableBlocks (b : Bool) : (s.endDataIn b).tableBlocks = s.tableBlocks := by
  simp only [State.endDataIn]
  exact s.messageSent.emptyDeliverySlot_tableBlocks

/-! ## The bus port -/

@[simp] theorem State.countCut_tableBlocks (b : Bool) : (s.countCut b).tableBlocks = s.tableBlocks := by
  unfold State.countCut
  (repeat' split) <;> rfl

@[simp] theorem State.stepQuiet_tableBlocks (n : Nat) : (s.stepQuiet n).tableBlocks = s.tableBlocks := by
  unfold State.stepQuiet
  split <;> rfl

@[simp] theorem State.sendNext_tableBlocks : s.sendNext.tableBlocks = s.tableBlocks := by
  unfold State.sendNext State.sendNextData
  (repeat' split) <;> rfl

@[simp] theorem State.beginRung_tableBlocks (k : Fin 64) : (s.beginRung k).tableBlocks = s.tableBlocks := by
  simp only [State.beginRung]
  split
  · exact (State.sendNext_tableBlocks _).trans (s.stepQuiet_tableBlocks _)
  · exact s.stepQuiet_tableBlocks _

@[simp] theorem State.endJam_tableBlocks : s.endJam.tableBlocks = s.tableBlocks := by
  unfold State.endJam
  split
  · simp only [State.returnControl]
    (repeat' split) <;> rfl
  · simp only [State.returnData]
    (repeat' split) <;> simp
  · rfl

@[simp] theorem State.passSlot_tableBlocks : s.passSlot.tableBlocks = s.tableBlocks := by
  rcases s.passSlot_cases with h | ⟨-, -, n, -, h⟩ <;> rw [h]; rfl

/-! ## The hand-overs -/

@[simp] theorem State.endCard_tableBlocks (d : CardDecision) (c : Counter) : (s.endCard d c).tableBlocks = s.tableBlocks := by
  unfold State.endCard
  split <;> simp

@[simp] theorem State.addTx_tableBlocks (r : TxRecord) : (s.addTx r).tableBlocks = s.tableBlocks := by
  unfold State.addTx
  split <;> rfl

@[simp] theorem State.handOverCard_tableBlocks (d : CardDecision) (f : CardFrame) (dest : Dest) :
    (s.handOverCard d f dest).tableBlocks = s.tableBlocks := by
  unfold State.handOverCard
  (repeat' split) <;> simp

@[simp] theorem State.handOverDelivery_tableBlocks (o : Bool) (f : DataFrame) :
    (s.handOverDelivery o f).tableBlocks = s.tableBlocks := by
  simp only [State.handOverDelivery]
  (repeat' split) <;> simp

end Sys2Proof.Machine
end

section
/-! What keeps the laws among the operations that do write configuration, table, peers, decisions or engine. -/

namespace Sys2Proof.Machine

variable (s : State)

/-! ## The engine -/

/-- A request that an engine takes, it takes in the state standing (R164). -/
theorem Management.takeNext_taken (m : Management) (now op : OpState) (h : (m.takeNext now).stage = .taken op) :
    m.stage = .taken op ∨ op = now := by
  unfold Management.takeNext at h
  split at h
  · cases h; exact .inr rfl
  · exact .inl h

/-- A request taken when another finishes is taken in the state standing (R164). -/
theorem Management.finish_taken (m : Management) (now op : OpState) (h : (m.finish now).stage = .taken op) : op = now :=
  (Management.takeNext_taken _ now op h).resolve_left (by simp)

/-- The end of a request. -/
theorem State.finishRequest_keeps : s.KeepsTables s.finishRequest :=
  .of_stage rfl rfl rfl rfl fun op hop => .inr (Management.finish_taken _ _ op hop)

/-- A response leaves no request newly taken but in the state standing (R164, R165). -/
theorem State.respond_keeps (st : Status) (rs : List Byte) (w : Bool) : s.KeepsTables (s.respond st rs w) := by
  refine .of_stage (by simp) (by simp) (by simp) (by simp) fun op hop => ?_
  unfold State.respond at hop
  split at hop
  · exact .inl hop
  · split at hop
    · exact .inr (Management.finish_taken _ _ _ hop)
    · cases hop

/-- An answer. -/
theorem State.answer_keeps (st : Status) (rs : List Byte) : s.KeepsTables (s.answer st rs) := s.respond_keeps st rs false

/-- A request offered (R161, R164). -/
theorem State.offerRequest_keeps (tag : Byte) (body : List Byte) : s.KeepsTables (s.offerRequest tag body) := by
  unfold State.offerRequest
  split
  · exact .of_stage rfl rfl rfl rfl fun op hop =>
      Management.takeNext_taken { s.me with queue := s.me.queue ++ [⟨tag, body⟩] } _ op hop
  · split
    · exact .of_blocks rfl
    · exact .of_blocks rfl

/-- The engine at card link DOWN (R174). -/
theorem State.engineDown_keeps : s.KeepsTables s.engineDown := by
  refine .of_stage rfl rfl rfl rfl fun op hop => ?_
  simp only [State.engineDown, Management.linkDown] at hop
  split at hop
  case h_1 h => exact .inl (h ▸ hop)
  case h_2 | h_3 => exact .inl hop
  case h_4 h =>
    split at hop
    · exact .inr (Management.finish_taken _ _ op hop)
    · exact .inl hop

/-- A walker's completion handed over (R33, R169). -/
theorem State.flushDone_keeps (removed : Nat) : s.KeepsTables (s.flushDone removed) := by
  unfold State.flushDone
  split
  · exact s.answer_keeps _ _
  · exact .refl s

/-- A request executed keeps what its effect and an answer keep. -/
theorem State.execute_keeps (c : ReqCode) (effect : State → List Byte → State) (u : State)
    (he : ∀ op args, s.me.stage = .taken op → requestAllowed c op = true → s.KeepsTables (effect s args))
    (h : s.execute c effect = some u) : s.KeepsTables u := by
  unfold State.execute at h
  split at h
  · cases h
  case h_2 r op htaken =>
    split at h
    · cases h
      split
      case isTrue ha =>
        refine he op _ ?_ ha
        unfold State.takenRequest at htaken
        split at htaken
        case h_1 op' hs =>
          obtain ⟨r', -, hr⟩ := Option.map_eq_some_iff.1 htaken
          rw [hs, (Prod.mk.inj hr).2]
        all_goals cases htaken
      case isFalse => exact s.answer_keeps _ _
    · cases h

/-! ## Starts, operating states and card link DOWN -/

/-- Holds cancelled leave every stage as it is (R71). -/
theorem State.cancelHolds_keeps : s.KeepsTables s.cancelHolds := by
  refine .of_decisions rfl rfl rfl rfl (fun h => ⟨?_, h.2⟩) fun h => ⟨?_, h.2⟩
  · intro d hd f hf
    obtain ⟨d', hd', rfl⟩ := List.mem_map.1 hd
    exact h.1 d' hd' f hf
  · show ((s.fe.card.map _).head?.any _) = false
    rw [List.head?_map, Option.any_map]
    exact h.1

/-- The frames a warm restart overtakes keep their stages (R61). -/
theorem State.overtakeFrames_keeps : s.KeepsTables s.overtakeFrames := by
  refine .of_decisions rfl rfl rfl rfl (fun h => ⟨h.1, ?_⟩) fun h => ⟨h.1, ?_⟩
  · intro d hd f p hf
    obtain ⟨d', hd', rfl⟩ := List.mem_map.1 hd
    exact h.2 d' hd' f p hf
  · show ((s.fe.backplane.map _).head?.any _) = false
    rw [List.head?_map, Option.any_map]
    exact h.2

/-- The warm restart (R188). -/
theorem State.warmRestart_keeps (straps : Station) : s.KeepsTables (s.warmRestart straps) := by
  refine .trans (.trans ?start (State.cancelHolds_keeps _)) (State.overtakeFrames_keeps _)
  case start =>
    refine .of_start rfl rfl rfl PeerTable.reset_get ?_ (fun h => h) (fun h => h)
    intro op h
    cases h

/-- A part with every block at its reset values and some strap number, RESET and queue. -/
theorem State.KeepsTables.of_reset (asserted : Bool) (n : Station) (pending : List Instr) :
    s.KeepsTables
      { State.reset with resetAsserted := asserted, cf := { State.reset.cf with station := n }, pending := pending } := by
  refine .of_start rfl rfl rfl PeerTable.reset_get ?_ (fun _ => State.reset_learnsKept) fun _ => State.reset_headsKept
  intro op h
  cases h

/-- Sync gained (R144, R187). -/
theorem State.enterRunning_keeps (h : s.cf.opState = .syncing) : s.KeepsTables s.enterRunning := by
  have run : s.KeepsTables
      { s.setOpState .running with
        bp.sync := .synced
        pt.announceTimer := .running s.conf.interval
        tw.sweepTimer := if s.conf.sweepPeriod = 0 then .stopped else .running s.conf.sweepPeriod } :=
    .of_frame rfl rfl (by simp [OpState.blind, h, State.setOpState]) rfl rfl rfl fun _ hop => .inl hop
  simp only [State.enterRunning]
  split
  · exact run.andThen (State.enterListening_tableBlocks _)
  · exact run

/-- Sync gained where it was sought (R144). -/
theorem State.gainSync_keeps : s.KeepsTables s.gainSync := by
  unfold State.gainSync
  split
  case isTrue h => exact s.enterRunning_keeps h
  case isFalse => exact .refl s

/-- A duplicate station detected (R145). -/
theorem State.enterSilent_keeps (h : s.cf.opState = .running) : s.KeepsTables s.enterSilent := by
  have silent : s.KeepsTables (s.setOpState .silent) :=
    .of_frame rfl rfl (by simp [OpState.blind, h, State.setOpState]) rfl rfl rfl fun _ hop => .inl hop
  exact silent.andThen (State.roleSilent_tableBlocks _)

/-- The duplicate-station test (R145). -/
theorem State.testDuplicate_keeps (n : Station) : s.KeepsTables (s.testDuplicate n) := by
  unfold State.testDuplicate
  split
  case isTrue h => exact .after (State.enterSilent_keeps (s.raiseAlarm .dupStation (word16 0 (byteOf s.cf.station))) h.1) rfl
  case isFalse => exact .refl s

/-- A good header (R137, R144, R145). -/
theorem State.takeHeader_keeps (h : Vector Byte 9) : s.KeepsTables (s.takeHeader h) := by
  unfold State.takeHeader
  split
  · exact .trans (.after (State.gainSync_keeps { s with bp.pointer := frameSource h, bp.assembly := .frame h }) rfl)
      (State.testDuplicate_keeps _ _)
  · exact .of_blocks rfl

/-- The pool at card link DOWN (R71, R72). -/
theorem State.poolDown_keeps : s.KeepsTables s.poolDown := by
  have released : s.KeepsTables s.releaseAll := .after (State.cancelHolds_keeps _) rfl
  unfold State.poolDown
  split
  · exact released.andThen (by simp)
  · exact released.andThen (by simp)

/-- The card link DOWN (R152, R173). -/
theorem State.linkDown_keeps (straps : Station) : s.KeepsTables (s.linkDown straps) := by
  have down : s.KeepsTables (((State.poolDown { s with cl := s.cl.goDown }).roleDown).engineDown) :=
    .after (((State.poolDown_keeps { s with cl := s.cl.goDown }).andThen (State.roleDown_tableBlocks _)).trans
      (State.engineDown_keeps _)) rfl
  simp only [State.linkDown]
  split
  · exact down.trans (State.warmRestart_keeps _ straps)
  · exact down

/-! ## The image -/

/-- Static records that may be placed together: none of BROADCAST or at the own number, and no EID twice (R185). -/
def soundRecords (own : Station) (rs : List StaticRecord) : Prop :=
  (∀ r ∈ rs, r.eid ≠ broadcast ∧ r.place ≠ .station own) ∧ (rs.map StaticRecord.eid).Nodup

/-- A record that passes may join those before it. -/
theorem soundRecords_snoc (own : Station) (before : List StaticRecord) (raw : Eid × Byte × Byte) (r : StaticRecord)
    (hb : soundRecords own before) (h : checkRecord own before raw = .ok r) : soundRecords own (before ++ [r]) := by
  unfold checkRecord at h
  split at h
  case h_2 => cases h
  case h_1 z p _ _ =>
    split at h
    · cases h
    case isFalse hgood =>
      split at h
      · cases h
      case isFalse hfresh =>
        split at h
        · cases h
        · obtain rfl := Except.ok.inj h
          obtain ⟨he, hp⟩ := not_or.1 hgood
          refine ⟨fun x hx => ?_, ?_⟩
          · rcases List.mem_append.1 hx with hx | hx
            · exact hb.1 x hx
            · rw [List.mem_singleton.1 hx]
              exact ⟨he, hp⟩
          · have fresh : raw.1 ∉ before.map StaticRecord.eid := by simpa using hfresh
            rw [List.map_append]
            exact hb.2.append (List.nodup_singleton _) (by simpa using fresh)

/-- The records of an image that passes may be placed together (R185). -/
theorem checkRecords_sound (own : Station) (i : Nat) (before rs : List StaticRecord) (raws : List (Eid × Byte × Byte))
    (hb : soundRecords own before) (h : checkRecords own i before raws = .ok rs) : soundRecords own rs := by
  induction raws generalizing i before with
  | nil => cases h; exact hb
  | cons raw raws ih =>
    simp only [checkRecords] at h
    split at h
    case h_1 => cases h
    case h_2 r hr => exact ih _ _ (soundRecords_snoc own before raw r hb hr) h

/-- The items of an image whose fields are in range are in range (R131, section 12.4). -/
theorem configInRange_configOfImage (image : List Byte)
    (h : ∀ j, 2 ≤ j → j ≤ 12 → fieldInRange j (imageByte image j) = true) : configInRange (configOfImage image) := by
  have h2 := h 2 (by decide) (by decide)
  have h3 := h 3 (by decide) (by decide)
  have h4 := h 4 (by decide) (by decide)
  have h5 := h 5 (by decide) (by decide)
  have h6 := h 6 (by decide) (by decide)
  have h8 := h 8 (by decide) (by decide)
  have h10 := h 10 (by decide) (by decide)
  have b6 := (imageByte image 6).isLt
  have b7 := (imageByte image 7).isLt
  simp only [fieldInRange, decide_eq_true_eq, Bool.and_eq_true, bne_iff_ne] at h2 h3 h4 h5 h6 h8 h10
  refine ⟨h2, h3, h4, ?_⟩
  simp only [configOfImage]
  omega

/-- The defaults are in range (section 12.4). -/
theorem configInRange_defaults (n : Station) : configInRange (Config.defaults n) := by
  have := n.isLt
  simp only [configInRange, Config.defaults, defaultLinkHold]
  refine ⟨by omega, ?_⟩
  decide

/-- An image that passes gives items in range and records that may be placed together (R185). -/
theorem checkImage_sound (own : Station) (image : List Byte) (c : Config) (rs : List StaticRecord)
    (h : checkImage own image = .ok (c, rs)) : configInRange c ∧ soundRecords own rs := by
  unfold checkImage at h
  split at h
  · cases h
  · split at h
    · cases h
    case h_2 hfields =>
      split at h
      · cases h
      case h_2 records hrecords =>
        obtain ⟨rfl, rfl⟩ := Prod.mk.inj (Except.ok.inj h)
        rw [List.find?_range'_eq_none] at hfields
        exact ⟨configInRange_configOfImage image fun j h2 h12 => by simpa using hfields j h2 (by omega),
          checkRecords_sound own 0 [] _ _ ⟨by simp, by simp⟩ hrecords⟩

/-- A sound record of an EID not yet held, placed in a lawful table, leaves it lawful (R4). -/
theorem State.placeStatic_tableKept (r : StaticRecord) (h : s.tableKept) (he : r.eid ≠ broadcast)
    (hp : r.place ≠ .station s.cf.station) (hfresh : findWay (bucketFor s.lt r.eid) r.eid = none) :
    State.tableKept { s with lt := placeStatic s.lt r } := by
  cases hw : emptyWay (bucketFor s.lt r.eid) with
  | none =>
    have same : placeStatic s.lt r = s.lt := by simp only [placeStatic, hw]
    rw [same]
    exact h
  | some w =>
    refine State.tableKept_putBucket h
      (State.bucketKept_staticEntry (h _) r.eid r.zone r.place w rfl he hp (.inl hfresh)) rfl ?_
    simp only [placeStatic, hw]
    rfl

/-- What a table holds once a record is placed: what it held, and that record's EID. -/
theorem mem_placeStatic (t : Table) (r : StaticRecord) (n : BucketNo) (v : Way) (y : Entry)
    (hy : y ∈ (placeStatic t r)[n][v]) : y ∈ t[n][v] ∨ y.eid = r.eid := by
  unfold placeStatic at hy
  split at hy
  case h_2 => exact .inl hy
  case h_1 w _ =>
    by_cases hn : n = bucketOf r.eid
    · subst hn
      rw [putBucket_same, putEntry_get] at hy
      split at hy
      · cases hy; exact .inr rfl
      · exact .inl hy
    · rw [putBucket_other _ _ _ _ hn] at hy
      exact .inl hy

/-- Sound records placed in a lawful table that holds none of their EIDs leave it lawful (R4). -/
theorem State.placeStatics_tableKept (rs : List StaticRecord) (h : s.tableKept) (hrs : soundRecords s.cf.station rs)
    (hfresh : ∀ r ∈ rs, ∀ n : BucketNo, ∀ w : Way, ∀ x ∈ s.lt[n][w], x.eid ≠ r.eid) :
    State.tableKept { s with lt := placeStatics rs s.lt } := by
  induction rs generalizing s with
  | nil => exact h
  | cons r rs ih =>
    obtain ⟨hgood, hnodup⟩ := hrs
    obtain ⟨he, hp⟩ := hgood r List.mem_cons_self
    rw [List.map_cons, List.nodup_cons] at hnodup
    have absent : findWay (bucketFor s.lt r.eid) r.eid = none :=
      (findWay_eq_none _ _).2 fun w x hx => hfresh r List.mem_cons_self _ w x hx
    refine ih { s with lt := placeStatic s.lt r } (s.placeStatic_tableKept r h he hp absent)
      ⟨fun x hx => hgood x (List.mem_cons_of_mem r hx), hnodup.2⟩ fun x hx n v y hy => ?_
    rcases mem_placeStatic s.lt r n v y hy with hy | hy
    · exact hfresh x (List.mem_cons_of_mem r hx) n v y hy
    · exact fun heq => hnodup.1 (List.mem_map.2 ⟨x, hx, heq.symm.trans hy⟩)

/-- A rejected image leaves the part without one, as it was in LOADING (R185). -/
theorem State.rejectImage_keeps (reason low : Nat) (h : s.cf.opState = .loading) : s.KeepsTables (s.rejectImage reason low) where
  config hs := by
    obtain ⟨hnone, hempty⟩ := State.configKept_empty hs (.inl h)
    refine ⟨?_, ⟨fun _ => .inr rfl, fun _ => rfl⟩, fun _ => ⟨hempty, fun op hop => (hs.2.2 hnone).2 op hop⟩⟩
    intro c hc
    cases hc
  peers := State.peersKept_congr rfl rfl
  learns := State.learnsKept_congr rfl
  heads := State.headsKept_congr rfl
  table hs _ _ := State.tableKept_of_empty (State.configKept_empty hs (.inl h)).2

/-- The end of LOADING with items in range and sound records (R186). -/
theorem State.endLoading_keeps (c : Config) (rs : List StaticRecord) (h : s.cf.opState = .loading) (hc : configInRange c)
    (hrs : soundRecords s.cf.station rs) : s.KeepsTables (s.endLoading c rs) where
  config _ := by
    refine ⟨?_, ?_, fun hnone => ?_⟩
    · intro d hd
      obtain rfl : c = d := Option.some.inj hd
      exact hc
    · simp [State.endLoading, State.setOpState]
    · cases hnone
  peers := State.peersKept_congr rfl rfl
  learns := State.learnsKept_congr rfl
  heads := State.headsKept_congr rfl
  table hs _ _ := by
    have hempty : s.lt = emptyTable := (State.configKept_empty hs (.inl h)).2
    let fresh : State := { s with cf := ⟨.syncing, s.cf.station, some c, []⟩ }
    have placed : State.tableKept { fresh with lt := placeStatics rs s.lt } := by
      refine State.placeStatics_tableKept fresh rs (State.tableKept_of_empty hempty) hrs fun r _ n w x hx => ?_
      have hx' : x ∈ s.lt[n][w] := hx
      rw [hempty, emptyTable_get] at hx'
      cases hx'
    exact State.tableKept_congr rfl rfl rfl placed

/-- One byte read of the image (R184, R185). -/
theorem State.byteRead_keeps (answer : Option Byte) (h : s.cf.opState = .loading) : s.KeepsTables (s.byteRead answer) := by
  have reads (image : List Byte) : s.KeepsTables { s with cf.image := image } :=
    .of_frame rfl rfl .rfl rfl rfl rfl fun _ hop => .inl hop
  unfold State.byteRead
  split
  · unfold State.judgeImage
    split
    · exact reads _
    · split
      · exact s.rejectImage_keeps _ _ h
      · split
        · exact reads _
        · split
          · exact s.rejectImage_keeps _ _ h
          case h_2 c rs hok =>
            obtain ⟨hc, hrs⟩ := checkImage_sound _ _ c rs hok
            exact s.endLoading_keeps c rs h hc hrs
  · exact s.endLoading_keeps _ _ h (configInRange_defaults _) ⟨by simp, by simp⟩
  · exact s.rejectImage_keeps _ _ h

end Sys2Proof.Machine
end

section
/-! The commands that write the location table, the decisions or the peer table, and the law of the tables over every step. -/

namespace Sys2Proof.Machine

variable (s : State)

/-! ## The location table -/

/-- A learn of an EID other than BROADCAST, in RUNNING and at a place other than the own number (R3, R8). -/
theorem State.learnClaim_keeps (e : Eid) (z : Zone) (p : Place) (he : s.learnsKept → e ≠ broadcast)
    (hop : s.cf.opState = .running) (hp : p ≠ .station s.cf.station) : s.KeepsTables (s.learnClaim e z p) := by
  refine .of_table (by simp) (by simp) (by simp) (by simp) (fun hc hnone => ?_) fun _ hl ht => ?_
  · rcases hc.2.1.1 hnone with h | h <;> rw [hop] at h <;> cases h
  · obtain ⟨ec, hclaim⟩ := s.learnClaim_frame e z p
    exact State.tableKept_putBucket ht (State.bucketKept_learnBucket (ht _) e z p rfl (he hl) hp) (by simp) (by rw [hclaim]; rfl)

/-- The learn of a decision (R8; log 11). -/
theorem State.issueLearn_keeps (e : Eid) (z : Zone) (p : Place) (he : s.learnsKept → e ≠ broadcast) :
    s.KeepsTables (s.issueLearn e z p) := by
  unfold State.issueLearn
  split
  case isTrue h => exact s.learnClaim_keeps e z p he h.1 h.2.2
  case isFalse => exact .refl s

/-- A write of the table by a request that the operating state allows (R164, R166). -/
theorem State.KeepsTables.of_request {lt : Table} {op : OpState} {c : ReqCode} (hst : s.me.stage = .taken op)
    (ha : requestAllowed c op = true) (hc : c = .addStatic ∨ c = .remove)
    (ht : s.tableKept → State.tableKept { s with lt := lt }) : s.KeepsTables { s with lt := lt } := by
  refine .of_table rfl rfl rfl rfl (fun hk hnone => ?_) fun _ _ => ht
  exfalso
  rcases (hk.2.2 hnone).2 op hst with rfl | rfl <;> rcases hc with rfl | rfl <;> cases ha

/-- ADD_STATIC (R15, R168). -/
theorem State.doAddStatic_keeps (op : OpState) (args : List Byte) (hst : s.me.stage = .taken op)
    (ha : requestAllowed .addStatic op = true) : s.KeepsTables (s.doAddStatic args) := by
  unfold State.doAddStatic
  split
  case h_2 => exact .refl s
  case h_1 hi lo zone place =>
    split
    case h_2 => exact s.answer_keeps _ _
    case h_1 z p _ _ =>
      split
      case isTrue => exact s.answer_keeps _ _
      case isFalse hgood =>
        obtain ⟨he, hp⟩ := not_or.1 hgood
        simp only [State.claimStatic]
        split
        case h_2 => exact s.answer_keeps _ _
        case h_1 w hw =>
          refine .trans (.of_request s hst ha (.inl rfl) fun ht => ?_) (State.answer_keeps _ _ _)
          exact State.tableKept_putBucket ht
            (State.bucketKept_staticEntry (ht _) _ z p w rfl he hp (staticWay_written _ w hw)) rfl rfl

/-- REMOVE (R16, R168). -/
theorem State.doRemove_keeps (op : OpState) (args : List Byte) (hst : s.me.stage = .taken op)
    (ha : requestAllowed .remove op = true) : s.KeepsTables (s.doRemove args) := by
  unfold State.doRemove
  split
  case h_2 => exact .refl s
  case h_1 hi lo =>
    dsimp only
    split
    case h_2 => exact s.answer_keeps _ _
    case h_1 w _ =>
      refine .trans (.of_request s hst ha (.inr rfl) fun ht => ?_) (State.answer_keeps _ _ _)
      exact State.tableKept_putBucket ht (State.bucketKept_clearWay (ht _) w) rfl rfl

/-- A bucket visit (R18, R31, R32, R34). -/
theorem State.visit_keeps (j : Job) (hj : s.tw.job = some j) : s.KeepsTables (s.visit j) := by
  rw [s.visit_eq j hj]
  refine .of_table rfl rfl rfl rfl (fun hc hnone => ?_) fun _ _ ht => ?_
  · show putBucket s.lt _ _ = emptyTable
    rw [(hc.2.2 hnone).1]
    refine putBucket_emptyTable _ _ fun w => ?_
    rw [Job.visited_get, emptyTable_get]
    rfl
  · exact State.tableKept_putBucket ht (State.bucketKept_visited (ht _) j) rfl rfl

/-- The cursor's move, or the job's completion (R30, R33). -/
theorem State.advanceCursor_keeps : s.KeepsTables s.advanceCursor := by
  unfold State.advanceCursor
  split
  · simp only [State.completeJob]
    split
    · exact .after (State.flushDone_keeps _ _) rfl
    all_goals exact .of_blocks rfl
  · exact .of_blocks rfl

/-! ## The decisions under way -/

/-- What the end of leading discards leaves: the blocks as they were, and of the decisions a rest with no discard at its head (R39). -/
theorem State.endLeading_spec (ds : List CardDecision) :
    ∃ rest, rest <:+ ds ∧ (rest.head?.any fun d => d.stage.isDiscard) = false ∧
      (s.endLeading ds).tableBlocks = State.tableBlocks { s with fe.card := rest } := by
  induction ds generalizing s with
  | nil => exact ⟨[], List.suffix_rfl, rfl, rfl⟩
  | cons d ds ih =>
    cases hd : d.stage.isDiscard with
    | false =>
      rw [s.endLeading_stays d ds hd]
      exact ⟨d :: ds, List.suffix_rfl, hd, rfl⟩
    | true =>
      obtain ⟨k, hk⟩ : ∃ k, d.stage = .discard k := by
        cases hs : d.stage <;> simp_all [CardStage.isDiscard]
      obtain ⟨rest, hrest, hhead, hblocks⟩ := ih (s.endCard d k)
      obtain ⟨hcf, hlt, hpeers, hfe, hme⟩ := State.tableBlocks_eq.1 (s.endCard_tableBlocks d k)
      refine ⟨rest, hrest.trans (List.suffix_cons d ds), hhead, ?_⟩
      rw [s.endLeading_ends d ds k hk, hblocks]
      simp only [State.tableBlocks_mk, hcf, hlt, hpeers, hfe, hme]

/-- Decisions of which none learns BROADCAST, once the leading discards among them have ended (R8, R39). -/
theorem State.endLeading_keeps (ds : List CardDecision)
    (hds : s.learnsKept → ∀ d ∈ ds, ∀ f, d.stage = .learn f → f.srcEid ≠ broadcast) : s.KeepsTables (s.endLeading ds) := by
  obtain ⟨rest, hrest, hhead, hblocks⟩ := s.endLeading_spec ds
  refine .andThen (t := { s with fe.card := rest }) ?_ hblocks
  exact .of_decisions rfl rfl rfl rfl (fun h => ⟨fun d hd => hds h d (hrest.mem hd), h.2⟩) fun h => ⟨hhead, h.2⟩

/-- A card decision that goes on to a stage without a learn. -/
theorem State.putCardStage_keeps (i : Nat) (d : CardDecision) (stage : CardStage) (hstage : ∀ f, stage ≠ .learn f) :
    s.KeepsTables (s.putCardStage i d stage) := by
  rw [s.putCardStage_eq]
  refine s.endLeading_keeps _ fun hl x hx f hf => ?_
  rcases List.mem_or_eq_of_mem_set hx with hx | rfl
  · exact hl.1 x hx f hf
  · exact absurd hf (hstage f)

/-- After its learn a decision learns no more (R46). -/
theorem afterLearnStage_ne_learn (f g : CardFrame) : afterLearnStage f ≠ .learn g := by
  unfold afterLearnStage
  split <;> simp

/-- A decision that starts learns what its frame brings, which is not BROADCAST (R43). -/
theorem State.firstStage_learn (body : List Byte) (f : CardFrame) (h : s.firstStage body = .learn f) : f.srcEid ≠ broadcast := by
  unfold State.firstStage at h
  split at h
  · cases h
  · split at h
    · cases h
    case h_2 g hg =>
      split at h
      · cases h
      · split at h
        · obtain rfl := CardStage.learn.inj h
          unfold cardFrameOfBody at hg
          split at hg
          · split at hg
            · split at hg
              case isTrue hgood => cases hg; exact hgood.2.2.2
              case isFalse => cases hg
            · cases hg
          · cases hg
        · exact absurd h (afterLearnStage_ne_learn g f)

/-- A card decision that starts (R41). -/
theorem State.startCard_keeps (b : BufNo) (body : List Byte) : s.KeepsTables (s.startCard b body) := by
  have starts : s.startCard b body = s.endLeading (s.fe.card ++ [⟨some b, s.firstStage body⟩]) := s.endLeading_setCard _ _
  rw [starts]
  refine s.endLeading_keeps _ fun hl d hd f hf => ?_
  rcases List.mem_append.1 hd with hd | hd
  · exact hl.1 d hd f hf
  · rw [List.mem_singleton.1 hd] at hf
    exact s.firstStage_learn body f hf

/-- Backplane decisions of which none learns BROADCAST, once those over at their head have ended (R8, R39). -/
theorem State.settleBackplane_keeps (ds : List BackplaneDecision)
    (hds : s.learnsKept → ∀ d ∈ ds, ∀ f p, d.stage = .learn f p → f.srcEid ≠ broadcast) :
    s.KeepsTables (State.settleBackplane { s with fe.backplane := ds }) := by
  refine .of_decisions rfl rfl rfl rfl (fun h => ⟨h.1, ?_⟩) fun h => ⟨h.1, ?_⟩
  · exact fun d hd => hds h d (List.dropWhile_sublist _ |>.mem hd)
  · show ((ds.dropWhile BackplaneDecision.isOver).head?.any _) = false
    have hhead := List.head?_dropWhile_not BackplaneDecision.isOver ds
    cases hd : (ds.dropWhile BackplaneDecision.isOver).head? with
    | none => rfl
    | some d => simpa [hd] using hhead

/-- A backplane decision that goes on to a stage without a learn. -/
theorem State.putBackplane_keeps (i : Nat) (d : BackplaneDecision) (stage : BackplaneStage) (hstage : ∀ f p, stage ≠ .learn f p) :
    s.KeepsTables (s.putBackplane i d stage) := by
  refine s.settleBackplane_keeps _ fun hl x hx f p hf => ?_
  rcases List.mem_or_eq_of_mem_set hx with hx | rfl
  · exact hl.2 x hx f p hf
  · exact absurd hf (hstage f p)

/-- After its learn a backplane decision learns no more. -/
theorem DeliveryPlan.proceed_ne_learn (f g : DataFrame) (plan p : DeliveryPlan) : plan.proceed f ≠ .learn g p := by
  cases plan <;> simp [DeliveryPlan.proceed]

/-- A backplane decision that starts on a frame not from BROADCAST (R55). -/
theorem State.startBackplane_keeps (f : DataFrame) (hf : f.srcEid ≠ broadcast) : s.KeepsTables (s.startBackplane f) := by
  refine s.settleBackplane_keeps _ fun hl d hd g p hg => ?_
  rcases List.mem_append.1 hd with hd | hd
  · exact hl.2 d hd g p hg
  · rw [List.mem_singleton.1 hd] at hg
    dsimp only at hg
    split at hg
    · cases hg; exact hf
    · exact absurd hg (DeliveryPlan.proceed_ne_learn f g _ p)

/-! ## The peer table -/

/-- A peer's entry written anew: none for the own number, and in range (R81). -/
theorem State.putPeer_keeps (n : Station) (p : Option Peer)
    (hp : s.peersKept → (n = s.cf.station → p = none) ∧ ∀ q ∈ p, q.inRange) : s.KeepsTables (s.putPeer n p) := by
  refine .of_peers rfl rfl rfl rfl fun h => ?_
  obtain ⟨hown, hrange⟩ := hp h
  have get (m : Station) : (s.putPeer n p).pt.peers[m] = if m = n then p else s.pt.peers[m] := by
    simp [Vector.getElem_set, Fin.ext_iff, eq_comm]
  refine ⟨?_, fun m q hq => ?_⟩
  · show (s.putPeer n p).pt.peers[s.cf.station] = none
    rw [get]
    split
    case isTrue hm => exact hown hm.symm
    case isFalse => exact h.1
  · rw [get] at hq
    split at hq
    · exact hrange q hq
    · exact h.2 m q hq

/-- The ranges of an ANNOUNCE taken (R83). -/
theorem announceOfBody_range (body : List Byte) (a : Announce) (h : announceOfBody body = some a) :
    a.segment ≤ 63 ∧ a.preference ≤ 15 ∧ a.zones ≠ 0 ∧ 1 ≤ a.interval ∧ a.interval ≤ 100 := by
  unfold announceOfBody at h
  split at h
  · split at h
    · split at h
      case isTrue hr => cases h; exact hr
      case isFalse => cases h
    · cases h
  · cases h

/-- The range of a TAKEOVER taken (R83). -/
theorem takeoverOfBody_range (body : List Byte) (t : Takeover) (h : takeoverOfBody body = some t) : t.segment ≤ 63 := by
  unfold takeoverOfBody at h
  split at h
  · split at h
    case isTrue hr =>
      split at h
      · cases h; exact hr
      · obtain ⟨p, -, rfl⟩ := Option.map_eq_some_iff.1 h
        exact hr
    case isFalse => cases h
  · cases h

/-- What a good frame of each kind brings (R83, R124). -/
def FrameClass.sound : FrameClass → Prop
  | .goodData f => f.srcEid ≠ broadcast
  | .goodAnnounce _ a => a.segment ≤ 63 ∧ a.preference ≤ 15 ∧ a.zones ≠ 0 ∧ 1 ≤ a.interval ∧ a.interval ≤ 100
  | .goodTakeover _ t => t.segment ≤ 63
  | .frameError | .formatError => True

/-- A frame's class has been judged by its content (R83, R124). -/
theorem classify_sound (h : Vector Byte 9) (rest : List Byte) : (classify h rest).sound := by
  unfold classify
  split
  · dsimp only
    split
    · split
      case h_1 f hf =>
        unfold dataOfFrame at hf
        split at hf
        · split at hf
          case isTrue hgood => cases hf; exact hgood.2.2
          case isFalse => cases hf
        · cases hf
      case h_2 => trivial
    · split
      case h_1 a ha => exact announceOfBody_range _ a ha
      case h_2 => trivial
    · split
      case h_1 t ht => exact takeoverOfBody_range _ t ht
      case h_2 => trivial
    · trivial
  · trivial

/-- A peer just heard is far from its removal (R81, R90). -/
theorem missedLimit_pos : 0 < missedLimit := by decide

/-- An ANNOUNCE of another station (R84 to R88). -/
theorem State.takeAnnounce_keeps (n : Station) (a : Announce) (hn : n ≠ s.cf.station)
    (ha : a.segment ≤ 63 ∧ a.preference ≤ 15 ∧ a.zones ≠ 0 ∧ 1 ≤ a.interval ∧ a.interval ≤ 100) :
    s.KeepsTables (s.takeAnnounce n a) := by
  obtain ⟨hseg, hpref, hzones, hlow, hhigh⟩ := ha
  refine .andThen (s.putPeer_keeps n (some ⟨a.segment, a.role, a.preference, a.zones, a.interval, 0⟩) fun _ =>
    ⟨fun h => absurd h hn, ?_⟩) (by simp [State.takeAnnounce])
  intro q hq
  obtain rfl := Option.some.inj hq
  exact ⟨hseg, hpref, hzones, hlow, hhigh, missedLimit_pos⟩

/-- A TAKEOVER of another station (R93, R94). -/
theorem State.takeTakeover_keeps (n : Station) (t : Takeover) (hn : n ≠ s.cf.station) (ht : t.segment ≤ 63) :
    s.KeepsTables (s.takeTakeover n t) := by
  unfold State.takeTakeover
  split
  case h_1 => exact .of_blocks (by simp)
  case h_2 q hq =>
    refine .andThen (s.putPeer_keeps n (some { q with role := .designated, segment := t.segment, missed := 0 }) fun h =>
      ⟨fun h => absurd h hn, ?_⟩) (by simp)
    intro p hp
    obtain rfl := Option.some.inj hp
    obtain ⟨-, hpref, hzones, hlow, hhigh, -⟩ := h.2 n q hq
    exact ⟨ht, hpref, hzones, hlow, hhigh, missedLimit_pos⟩

/-- A sign of life (R89). -/
theorem State.noteAlive_keeps (n : Station) : s.KeepsTables (s.noteAlive n) := by
  refine s.putPeer_keeps n _ fun h => ⟨?_, fun q hq => ?_⟩
  · rintro rfl
    rw [h.1]; rfl
  · obtain ⟨p, hp, rfl⟩ := Option.map_eq_some_iff.1 hq
    obtain ⟨hseg, hpref, hzones, hlow, hhigh, -⟩ := h.2 n p hp
    exact ⟨hseg, hpref, hzones, hlow, hhigh, missedLimit_pos⟩

/-- A good frame handed on (R83, R124). -/
theorem State.handOn_keeps (c : FrameClass) (hc : c.sound) : s.KeepsTables (s.handOn c) := by
  unfold State.handOn
  split
  case h_1 f =>
    split
    · exact .refl s
    · simp only [State.takeData]
      split
      · exact (s.noteAlive_keeps _).trans (State.startBackplane_keeps _ f hc)
      · exact s.noteAlive_keeps _
  case h_2 n a =>
    split
    case isTrue => exact .refl s
    case isFalse hn => exact s.takeAnnounce_keeps n a hn hc
  case h_3 n t =>
    split
    case isTrue => exact .refl s
    case isFalse hn => exact s.takeTakeover_keeps n t hn hc
  all_goals exact .refl s

/-- An entry that stays after an expiry stays in range (R90). -/
theorem agePeer_inRange (p q : Peer) (h : agePeer (some p) = some q) (hp : p.inRange) : q.inRange := by
  simp only [agePeer] at h
  split at h
  case isTrue hm =>
    cases h
    obtain ⟨hseg, hpref, hzones, hlow, hhigh, -⟩ := hp
    exact ⟨hseg, hpref, hzones, hlow, hhigh, hm⟩
  case isFalse => cases h

/-- The entries after an expiry of the announce timer (R90). -/
theorem State.peersKept_aged {s t : State} (hstation : t.cf.station = s.cf.station)
    (hpeers : t.pt.peers = vmap agePeer s.pt.peers) (h : s.peersKept) : t.peersKept := by
  obtain ⟨hown, hrange⟩ := h
  refine ⟨?_, fun n q hq => ?_⟩
  · rw [hpeers, vmap_get, hstation, hown]
    rfl
  · rw [hpeers, vmap_get, Option.mem_def] at hq
    cases hp : s.pt.peers[n] with
    | none =>
      rw [hp] at hq
      cases hq
    | some p =>
      rw [hp] at hq
      exact agePeer_inRange p q hq (hrange n p hp)

/-- The announce timer's expiry (R90 to R92). -/
theorem State.agePeers_keeps : s.KeepsTables s.agePeers := by
  have aged : s.KeepsTables
      { s with pt.peers := vmap agePeer s.pt.peers, pt.announceTimer := .running s.conf.interval } :=
    .of_peers rfl rfl rfl rfl (State.peersKept_aged rfl rfl)
  refine aged.andThen ?_
  simp only [State.agePeers]
  split <;> simp

end Sys2Proof.Machine
end

section
/-! Every command keeps the laws of configuration, peer table, decisions and location table. -/

namespace Sys2Proof.Machine

variable (s : State)

/-! ## The effect of a command -/

section Effects

variable {s} {t : State} {e : Option State}

/-- A command keeps the laws where its effect does. -/
theorem takeEvent_keepsTables (h : takeEvent s e = .next t) (he : ∀ u, e = some u → s.KeepsTables u) : s.KeepsTables t :=
  takeEvent_keeps s (s.KeepsTables ·) e t (.refl s) he (fun u hu => hu.andThen u.arbitrate_tableBlocks) h

/-- An effect under a condition. -/
theorem keepsTables_guarded {c : Prop} [Decidable c] {v : State} (h : c → s.KeepsTables v) :
    ∀ u, (if c then some v else none) = some u → s.KeepsTables u := by
  intro u hu
  split at hu
  case isTrue hc => cases hu; exact h hc
  case isFalse => cases hu

end Effects

/-- DATA_OUT of good check, by its mode (R155, R156). -/
theorem State.takeDataOut_keeps (tag : Byte) (m : DataOutMode) (body : List Byte) : s.KeepsTables (s.takeDataOut tag m body) := by
  unfold State.takeDataOut
  split
  · exact .refl s
  · exact .of_blocks rfl
  · split
    · exact .of_blocks rfl
    · exact .after (State.startCard_keeps _ _ _) (by simp)

/-- A response's end (R165, R173). -/
theorem State.endResponse_keeps (r : Response) (straps : Station) : s.KeepsTables (s.endResponse r straps) := by
  unfold State.endResponse
  split
  · split
    · exact .after (s.messageSent.warmRestart_keeps straps) rfl
    · exact .after s.messageSent.finishRequest_keeps rfl
    all_goals exact .of_blocks rfl
  · exact .of_blocks rfl

/-- A RESTART (R173). -/
theorem State.doRestart_keeps (straps : Station) : s.KeepsTables (s.doRestart straps) := by
  unfold State.doRestart
  split
  · exact s.warmRestart_keeps straps
  · exact s.respond_keeps _ _ _

/-- The learn of a decision under way (R45, R56). -/
theorem execLearn_keeps (side : Side) (i : Nat) (t : State) (h : execLearn side i s = .next t) : s.KeepsTables t := by
  refine takeEvent_keepsTables h fun u hu => ?_
  cases side with
  | card =>
    simp only [State.cardLearn] at hu
    split at hu
    case h_2 => cases hu
    case h_1 d hd =>
      split at hu
      case h_1 f hf =>
        cases hu
        refine .trans (s.issueLearn_keeps _ _ _ fun hl => ?_)
          (State.putCardStage_keeps _ i d _ fun g => afterLearnStage_ne_learn f g)
        exact hl.1 d (List.mem_of_getElem? hd) f hf
      all_goals cases hu
  | backplane =>
    simp only [State.backplaneLearn] at hu
    split at hu
    case h_2 => cases hu
    case h_1 d hd =>
      split at hu
      case h_1 f plan hf =>
        cases hu
        refine .trans (s.issueLearn_keeps _ _ _ fun hl => ?_)
          (State.putBackplane_keeps _ i d _ fun g p => DeliveryPlan.proceed_ne_learn f g plan p)
        exact hl.2 d (List.mem_of_getElem? hd) f plan hf
      all_goals cases hu

/-- The lookup of a decision under way, or its read of the peer table (R47, R48, R50, R59). -/
theorem execLookup_keeps (side : Side) (i : Nat) (t : State) (h : execLookup side i s = .next t) : s.KeepsTables t := by
  refine takeEvent_keepsTables h fun u hu => ?_
  cases side with
  | card =>
    have miss (f g : CardFrame) : s.missStage f ≠ .learn g := by
      unfold State.missStage
      split <;> simp
    simp only [State.cardLookup] at hu
    split at hu
    case h_2 => cases hu
    case h_1 d hd =>
      split at hu
      case h_1 f _ =>
        cases hu
        refine s.putCardStage_keeps i d _ fun g => ?_
        unfold State.lookupStage
        split
        · exact miss f g
        all_goals simp
      case h_2 f n _ =>
        cases hu
        refine s.putCardStage_keeps i d _ fun g => ?_
        unfold State.peerStage
        split
        · exact miss f g
        · split <;> simp
      case h_3 f _ =>
        cases hu
        refine s.putCardStage_keeps i d _ fun g => ?_
        unfold State.floodStage
        split <;> simp
      all_goals cases hu
  | backplane =>
    simp only [State.backplaneLookupStep] at hu
    split at hu
    case h_2 => cases hu
    case h_1 d hd =>
      split at hu
      case h_1 f _ =>
        cases hu
        refine s.putBackplane_keeps i d _ fun g p => ?_
        unfold backplaneLookup
        split <;> simp
      all_goals cases hu

/-- The hand-over of a card frame (R51). -/
theorem execBtqHandover_keeps (t : State) (h : execBtqHandover s = .next t) : s.KeepsTables t := by
  refine takeEvent_keepsTables h fun u hu => ?_
  split at hu
  case h_2 => cases hu
  case h_1 d ds hcard =>
    split at hu
    case h_1 f dest _ =>
      cases hu
      have hblocks := s.handOverCard_tableBlocks d f dest
      refine .after (State.endLeading_keeps _ ds fun hl x hx => ?_) hblocks
      refine hl.1 x ?_
      rw [(State.tableBlocks_eq.1 hblocks).2.2.2.1, hcard]
      exact List.mem_cons_of_mem d hx
    all_goals cases hu

/-- The hand-over of a backplane frame (R60). -/
theorem execDeliveryHandover_keeps (t : State) (h : execDeliveryHandover s = .next t) : s.KeepsTables t := by
  refine takeEvent_keepsTables h fun u hu => ?_
  split at hu
  case h_2 => cases hu
  case h_1 d ds hback =>
    split at hu
    case h_1 f _ =>
      cases hu
      have hblocks := s.handOverDelivery_tableBlocks d.overtaken f
      refine .after (State.settleBackplane_keeps _ ds fun hl x hx => ?_) hblocks
      refine hl.2 x ?_
      rw [(State.tableBlocks_eq.1 hblocks).2.2.2.1, hback]
      exact List.mem_cons_of_mem d hx
    all_goals cases hu

/-- A management request whose effect is an answer. -/
theorem State.execute_answers (c : ReqCode) (effect : State → List Byte → State) (t : State)
    (h : takeEvent s (s.execute c effect) = .next t) (he : ∀ args, s.KeepsTables (effect s args)) : s.KeepsTables t :=
  takeEvent_keepsTables h fun u hu => s.execute_keeps c effect u (fun _ args _ _ => he args) hu

/-- READ_ENTRY's answer (R167). -/
theorem State.doReadEntry_keeps (args : List Byte) : s.KeepsTables (s.doReadEntry args) := by
  unfold State.doReadEntry
  split
  · dsimp only
    split <;> exact s.answer_keeps _ _
  · exact .refl s

/-- READ_BUCKET's answer (R167). -/
theorem State.doReadBucket_keeps (args : List Byte) : s.KeepsTables (s.doReadBucket args) := by
  unfold State.doReadBucket
  split
  · exact s.answer_keeps _ _
  · exact .refl s

/-- FLUSH's hand-over or answer (R169). -/
theorem State.doFlush_keeps (args : List Byte) : s.KeepsTables (s.doFlush args) := by
  unfold State.doFlush
  split
  · split
    · refine .of_stage rfl rfl rfl rfl fun op hop => ?_
      cases hop
    · exact s.answer_keeps _ _
  · exact .refl s

/-- READ_PEER's answer (R170). -/
theorem State.doReadPeer_keeps (args : List Byte) : s.KeepsTables (s.doReadPeer args) := by
  unfold State.doReadPeer
  split
  · split
    · split
      · exact s.answer_keeps _ _
      · split <;> exact s.answer_keeps _ _
    · exact s.answer_keeps _ _
  · exact .refl s

/-- READ_COUNTERS's answer (R171). -/
theorem State.doReadCounters_keeps (args : List Byte) : s.KeepsTables (s.doReadCounters args) := by
  unfold State.doReadCounters
  split
  case h_1 first count clear =>
    split
    · exact s.answer_keeps _ _
    · dsimp only
      split
      · exact .after (State.answer_keeps _ _ _) (by simp)
      · exact s.answer_keeps _ _
  case h_2 => exact .refl s

/-- ACK_EVENT's answer (R172). -/
theorem State.doAckEvent_keeps (args : List Byte) : s.KeepsTables (s.doAckEvent args) := by
  unfold State.doAckEvent
  split
  · split
    · exact .after (State.answer_keeps _ _ _) rfl
    · exact s.answer_keeps _ _
  · exact .refl s

/-- Every command keeps the laws. -/
theorem exec_keepsTables (c : Instr) (t : State) (h : exec c s = .next t) : s.KeepsTables t := by
  cases c with
  | deviceReset => cases h; exact .of_reset s true s.cf.station s.pending
  | resetRelease straps => cases h; exact .of_reset s false straps s.pending
  | configByteRead answer => exact takeEvent_keepsTables h (keepsTables_guarded fun hl => s.byteRead_keeps answer hl)
  | mediumGoesIdle truncated =>
    exact takeEvent_keepsTables h (keepsTables_guarded fun _ => .of_blocks (s.countCut_tableBlocks truncated))
  | mediumLeavesIdle => exact takeEvent_keepsTables h (keepsTables_guarded fun _ => .of_blocks rfl)
  | rungStart =>
    refine takeEvent_keepsTables h fun u hu => ?_
    split at hu
    · obtain ⟨k, -, rfl⟩ := Option.map_eq_some_iff.1 hu
      exact .of_blocks (s.beginRung_tableBlocks k)
    · cases hu
  | quietCountExpiry =>
    refine takeEvent_keepsTables h (keepsTables_guarded fun hdue => ?_)
    have syncing : s.cf.opState = .syncing := by
      have hquiet := hdue.1
      simp only [State.quietDue, Bool.and_eq_true, beq_iff_eq] at hquiet
      exact hquiet.1
    exact .after (State.enterRunning_keeps { s with bp.quietCount := quietSlots } syncing) rfl
  | ownHeaderSent => exact takeEvent_keepsTables h (keepsTables_guarded fun _ => .of_blocks rfl)
  | controlFrameSent => exact takeEvent_keepsTables h (keepsTables_guarded fun _ => .of_blocks rfl)
  | dataFrameSent =>
    refine takeEvent_keepsTables h fun u hu => ?_
    split at hu
    · split at hu
      · cases hu
        exact .of_blocks (by simp)
      all_goals cases hu
    · cases hu
  | collision => exact takeEvent_keepsTables h (keepsTables_guarded fun _ => .of_blocks rfl)
  | jamEnd => exact takeEvent_keepsTables h (keepsTables_guarded fun _ => .of_blocks (State.endJam_tableBlocks _))
  | jamSeen =>
    refine takeEvent_keepsTables h (keepsTables_guarded fun _ => ?_)
    split
    · exact .after (State.gainSync_keeps _) rfl
    · exact .of_blocks rfl
  | headerReceived header => exact takeEvent_keepsTables h (keepsTables_guarded fun _ => s.takeHeader_keeps header)
  | frameReceived rest =>
    refine takeEvent_keepsTables h fun u hu => ?_
    split at hu
    case h_1 header _ =>
      cases hu
      exact .after (State.handOn_keeps _ _ (classify_sound header rest)) rfl
    all_goals cases hu
  | announceTimerExpiry =>
    refine takeEvent_keepsTables h fun u hu => ?_
    split at hu
    · cases hu
    · cases hu
      exact s.agePeers_keeps
  | listenTimerExpiry => exact takeEvent_keepsTables h (keepsTables_guarded fun _ => .of_blocks s.endListening_tableBlocks)
  | dataOutHeader header arrived =>
    exact takeEvent_keepsTables h (keepsTables_guarded fun _ => .of_blocks (s.receiveHeader_tableBlocks header arrived))
  | dataOut body =>
    refine takeEvent_keepsTables h fun u hu => ?_
    split at hu
    case h_1 => exact keepsTables_guarded (fun _ => .after (State.takeDataOut_keeps _ _ _ body) (by simp)) u hu
    all_goals cases hu
  | request tag body =>
    exact takeEvent_keepsTables h (keepsTables_guarded fun _ => .after (State.offerRequest_keeps _ tag body) (by simp))
  | receiveReady total => exact takeEvent_keepsTables h (keepsTables_guarded fun _ => .of_blocks (by simp))
  | idle => exact takeEvent_keepsTables h (keepsTables_guarded fun _ => .of_blocks (by simp))
  | unusableMessage type length =>
    refine takeEvent_keepsTables h fun u hu => ?_
    split at hu
    case h_1 => exact keepsTables_guarded (fun _ => .of_blocks (by simp)) u hu
    all_goals cases hu
  | messageBadCheck =>
    refine takeEvent_keepsTables h fun u hu => ?_
    split at hu
    case h_1 =>
      refine keepsTables_guarded (fun _ => ?_) u hu
      exact .of_blocks (State.takeBadDataOut_tableBlocks _ _ _)
    case h_2 =>
      refine keepsTables_guarded (fun _ => ?_) u hu
      exact .of_blocks rfl
    all_goals cases hu
  | linkHeaderRejected bytes => exact takeEvent_keepsTables h (keepsTables_guarded fun _ => .of_blocks rfl)
  | linkHoldExpiry straps => exact takeEvent_keepsTables h (keepsTables_guarded fun _ => s.linkDown_keeps straps)
  | idleTimerExpiry => exact takeEvent_keepsTables h (keepsTables_guarded fun _ => .of_blocks rfl)
  | dataInEnd =>
    refine takeEvent_keepsTables h fun u hu => ?_
    split at hu
    · cases hu
      exact .of_blocks (s.endDataIn_tableBlocks _)
    · cases hu
  | responseEnd straps =>
    refine takeEvent_keepsTables h fun u hu => ?_
    split at hu
    · cases hu
      exact s.endResponse_keeps _ straps
    · cases hu
  | statusEnd =>
    refine takeEvent_keepsTables h fun u hu => ?_
    split at hu
    · cases hu
      split <;> exact .of_blocks rfl
    · cases hu
  | messageEnd => exact takeEvent_keepsTables h (keepsTables_guarded fun _ => .of_blocks rfl)
  | readEntry => exact s.execute_answers _ _ t h s.doReadEntry_keeps
  | readBucket => exact s.execute_answers _ _ t h s.doReadBucket_keeps
  | addStatic =>
    exact takeEvent_keepsTables h fun u hu => s.execute_keeps _ _ u (fun op args hst ha => s.doAddStatic_keeps op args hst ha) hu
  | remove =>
    exact takeEvent_keepsTables h fun u hu => s.execute_keeps _ _ u (fun op args hst ha => s.doRemove_keeps op args hst ha) hu
  | flush => exact s.execute_answers _ _ t h s.doFlush_keeps
  | readPeer => exact s.execute_answers _ _ t h s.doReadPeer_keeps
  | readStatus => exact s.execute_answers _ _ t h fun _ => s.answer_keeps _ _
  | readCounters => exact s.execute_answers _ _ t h s.doReadCounters_keeps
  | ackEvent => exact s.execute_answers _ _ t h s.doAckEvent_keeps
  | restart straps => exact s.execute_answers _ _ t h fun _ => s.doRestart_keeps straps
  | badRequest =>
    refine takeEvent_keepsTables h fun u hu => ?_
    split at hu
    · exact keepsTables_guarded (fun _ => s.answer_keeps _ _) u hu
    · cases hu
  | sweepTimerExpiry =>
    refine takeEvent_keepsTables h fun u hu => ?_
    split at hu
    · cases hu
    · cases hu
      exact .of_blocks rfl
  | bucketVisit =>
    refine takeEvent_keepsTables h fun u hu => ?_
    obtain ⟨j, hj, rfl⟩ := Option.map_eq_some_iff.1 hu
    exact (s.visit_keeps j hj).trans (State.advanceCursor_keeps _)
  | learn side i => exact execLearn_keeps s side i t h
  | lookup side i => exact execLookup_keeps s side i t h
  | btqHandover => exact execBtqHandover_keeps s t h
  | deliveryHandover => exact execDeliveryHandover_keeps s t h

/-- Every step keeps the laws. -/
theorem step_keepsTables (t : State) (h : step s = .next t) : s.KeepsTables t := by
  unfold step at h
  split at h
  · cases h
    exact .of_blocks s.passSlot_tableBlocks
  case h_2 c rest _ => exact .after (exec_keepsTables { s with pending := rest } c t h) rfl

/-- Settles O56, by what each command keeps. -/
theorem tablesStaySound : Obligations.TablesStaySound := by
  intro s t h
  obtain ⟨config, peers, learns, heads, table⟩ := step_keepsTables s t h
  exact ⟨config, peers, learns, heads, table⟩

end Sys2Proof.Machine
end

section
/-! The walker's law and the management flushes under way, on the walker's own block, and what keeps them (R23, R25 to R29). -/

namespace Sys2Proof.Machine

/-- Management flushes running and pending. -/
def Walker.flushes (w : Walker) : Nat := (w.job.any Job.isManagement).toNat + w.pendingFlush.isSome.toNat

/-- The walker's law on its own block (R23, R29). -/
def Walker.sound (w : Walker) : Prop :=
  w.job = none → w.cursor = 0 ∧ w.pendingPlaces = [] ∧ w.pendingFlush = none ∧ w.sweepPending = false

/-- The flushes of the part are those of its walker. -/
theorem State.managementFlushes_eq (s : State) : s.managementFlushes = s.tw.flushes := rfl

/-- The walker's law of the part is that of its walker. -/
theorem State.walkerKept_iff (s : State) : s.walkerKept ↔ s.tw.sound := Iff.rfl

/-- A walker at work meets its law. -/
theorem Walker.sound_of_busy {w : Walker} (h : w.job ≠ none) : w.sound := fun hidle => absurd hidle h

/-- From `v` to `w` no management flush is raised or ended, and the law is kept. -/
structure Walker.Keeps (v w : Walker) : Prop where
  flushes : w.flushes = v.flushes
  sound : v.sound → w.sound

section Walker

variable {u v w : Walker}

/-- What does not change keeps the law. -/
theorem Walker.Keeps.refl (w : Walker) : w.Keeps w := ⟨rfl, id⟩

/-- One change after another keeps the law. -/
theorem Walker.Keeps.trans (h : u.Keeps v) (h' : v.Keeps w) : u.Keeps w :=
  ⟨h'.flushes.trans h.flushes, fun hu => h'.sound (h.sound hu)⟩

/-- A walker at work with the same flushes. -/
theorem Walker.Keeps.of_busy (hflushes : w.flushes = v.flushes) (hbusy : w.job ≠ none) : v.Keeps w :=
  ⟨hflushes, fun _ => Walker.sound_of_busy hbusy⟩

/-- A job other than a management flush started by an IDLE engine (R29). -/
theorem Walker.Keeps.of_start (j : Job) (hflushes : w.flushes = v.flushes) (hidle : w.job = none)
    (hj : j.isManagement = false) : v.Keeps (w.start j) :=
  .of_busy (by simpa [Walker.flushes, Walker.start, hidle, hj] using hflushes) (Option.some_ne_none j)

/-- An internal flush requested (R25, R29). -/
theorem Walker.requestFlush_keeps (ps : List Place) : w.Keeps (w.requestFlush ps) := by
  simp only [Walker.requestFlush]
  split
  · exact .refl w
  · split
    case isTrue hidle => exact .of_start _ rfl hidle rfl
    case isFalse hbusy => exact .of_busy rfl hbusy

/-- A sweep raised (R27, R28, R29). -/
theorem Walker.raiseSweep_keeps : w.Keeps w.raiseSweep := by
  unfold Walker.raiseSweep
  split
  · exact .refl w
  · split
    case isTrue hidle => exact .of_start _ rfl hidle rfl
    case isFalse hbusy => exact .of_busy rfl hbusy

/-- A management flush handed over where there was none is the only one (R26, R29). -/
theorem Walker.handFlush_flushes (w : Walker) (f : Scope) (h : w.flushes = 0) : (w.handFlush f).flushes = 1 := by
  obtain ⟨hjob, hpending⟩ := Nat.add_eq_zero_iff.1 h
  unfold Walker.handFlush
  split
  · simpa [Walker.flushes, Walker.start, Job.isManagement] using hpending
  · simpa [Walker.flushes] using hjob

/-- A walker handed a management flush is at work (R29). -/
theorem Walker.handFlush_sound (w : Walker) (f : Scope) : (w.handFlush f).sound := by
  unfold Walker.handFlush
  split
  · exact Walker.sound_of_busy (Option.some_ne_none _)
  case isFalse hbusy => exact Walker.sound_of_busy hbusy

/-- The sweep timer set anew. -/
theorem Walker.setTimer_keeps (t : Timer) : w.Keeps { w with sweepTimer := t } := ⟨rfl, id⟩

/-- An engine whose job has ended goes on to what waits: the pending management flush is then the only one (R29). -/
theorem Walker.startNext_flushes (w : Walker) :
    ({ w with job := none, cursor := 0 }.startNext).flushes = w.pendingFlush.isSome.toNat := by
  rw [Walker.startNext_idle]
  split
  · simp [Walker.flushes, Job.isManagement]
  · split
    case h_1 scope hp => simp [Walker.flushes, Job.isManagement, hp]
    case h_2 hp => cases hs : w.sweepPending <;> simp [Walker.flushes, Job.isManagement, hp]

/-- An engine whose job has ended is IDLE only where nothing waits (R29). -/
theorem Walker.startNext_sound (w : Walker) : ({ w with job := none, cursor := 0 }.startNext).sound := by
  rw [Walker.startNext_idle]
  split
  · exact Walker.sound_of_busy (Option.some_ne_none _)
  case isFalse hplaces =>
    split
    · exact Walker.sound_of_busy (Option.some_ne_none _)
    case h_2 hp => exact fun _ => ⟨rfl, not_not.1 hplaces, hp, rfl⟩

end Walker

end Sys2Proof.Machine
end

section
/-! The engine's law by its parts, and the kinds of change that keep it (R161, R163 to R165). -/

namespace Sys2Proof.Machine

/-! ## The engine's own block -/

/-- The engine's law on its own block: the queue's depth, a current request exactly while not IDLE, nothing queued or marked while
IDLE (R163, R164). -/
def Management.sound (m : Management) : Prop :=
  m.queue.length ≤ requestDepth ∧ (m.stage = .idle ↔ m.current = none) ∧
    (m.stage = .idle → m.queue = [] ∧ m.discardMark = false)

/-- The engine has no response out and no flush handed over. -/
def Stage.atHand : Stage → Bool
  | .idle | .taken _ => true
  | .waitWalk | .waitSend _ => false

/-- The engine's law of the part: that of its own block, and the responses and flushes its stage waits for. -/
theorem State.engineKept_iff (s : State) :
    s.engineKept ↔ s.me.sound ∧ s.cl.busyCount ≤ busyDepth ∧ s.engineResponses = s.me.stage.sending.toNat ∧
      s.managementFlushes = (decide (s.me.stage = .waitWalk)).toNat := by
  simp only [State.engineKept, Management.sound]
  tauto

/-- At hand the engine waits for no response and no walk. -/
theorem Stage.atHand_iff (g : Stage) : g.atHand = true ↔ g.sending = false ∧ g ≠ .waitWalk := by
  cases g <;> simp [Stage.atHand, Stage.sending]

/-- The engine's law where it waits for nothing. -/
theorem State.engineKept_atHand {s : State} (h : s.me.stage.atHand = true) :
    s.engineKept ↔ s.me.sound ∧ s.cl.busyCount ≤ busyDepth ∧ s.engineResponses = 0 ∧ s.managementFlushes = 0 := by
  obtain ⟨hsending, hwalk⟩ := s.me.stage.atHand_iff.1 h
  simp [State.engineKept_iff, hsending, hwalk]

/-- The end of a request: IDLE with nothing queued, or the next request taken (R164). -/
theorem Management.finish_cases (m : Management) (op : OpState) :
    (m.queue = [] ∧ m.finish op = ⟨[], none, .idle, false⟩) ∨
      ∃ q qs, m.queue = q :: qs ∧ m.finish op = ⟨qs, some q, .taken op, false⟩ := by
  cases hq : m.queue with
  | nil => exact .inl ⟨rfl, by simp [Management.finish, Management.takeNext, hq]⟩
  | cons q qs => exact .inr ⟨q, qs, rfl, by simp [Management.finish, Management.takeNext, hq]⟩

/-- The end of a request leaves the engine sound and at hand (R164). -/
theorem Management.finish_sound (m : Management) (op : OpState) (h : m.queue.length ≤ requestDepth) :
    (m.finish op).sound ∧ (m.finish op).stage.atHand = true := by
  rcases m.finish_cases op with ⟨-, hm⟩ | ⟨q, qs, hq, hm⟩
  · simp [hm, Management.sound, Stage.atHand]
  · have : qs.length ≤ requestDepth := by rw [hq, List.length_cons] at h; omega
    simpa [hm, Management.sound, Stage.atHand] using this

/-- A request queued: an IDLE engine takes it, any other keeps its stage (R161, R164). -/
theorem Management.queued_cases (m : Management) (r : Request) (op : OpState) (h : m.sound) :
    (m.stage = .idle ∧ { m with queue := m.queue ++ [r] }.takeNext op = ⟨[], some r, .taken op, false⟩) ∨
      (m.stage ≠ .idle ∧ { m with queue := m.queue ++ [r] }.takeNext op = { m with queue := m.queue ++ [r] }) := by
  by_cases hidle : m.stage = .idle
  · obtain ⟨hq, hd⟩ := h.2.2 hidle
    have taken := Management.takeNext_idle { m with queue := m.queue ++ [r] } op r [] hidle (by simp [hq])
    exact .inl ⟨hidle, taken.trans (by simp [hd])⟩
  · exact .inr ⟨hidle, Management.takeNext_busy _ op hidle⟩

/-! ## Kinds of change -/

/-- The laws of engine and walker that hold of `s` hold of `t`. -/
structure State.KeepsEngine (s t : State) : Prop where
  engine : s.engineKept → t.engineKept
  walker : s.walkerKept → t.walkerKept

/-- From `s` to `t` the engine's block stays, no response of its own is made or ended, no BUSY answer is made, and the walker
goes on without raising or ending a management flush. -/
structure State.SparesEngine (s t : State) : Prop where
  me : t.me = s.me
  busy : t.cl.busyCount ≤ s.cl.busyCount
  responses : t.engineResponses = s.engineResponses
  walker : s.tw.Keeps t.tw

section Kinds

variable {s t u : State}

/-- What does not change keeps the laws. -/
theorem State.KeepsEngine.refl (s : State) : s.KeepsEngine s := ⟨id, id⟩

/-- One change after another keeps the laws. -/
theorem State.KeepsEngine.trans (h : s.KeepsEngine t) (h' : t.KeepsEngine u) : s.KeepsEngine u :=
  ⟨fun hs => h'.engine (h.engine hs), fun hs => h'.walker (h.walker hs)⟩

/-- What does not change spares the engine. -/
theorem State.SparesEngine.refl (s : State) : s.SparesEngine s := ⟨rfl, le_rfl, rfl, .refl _⟩

/-- One change after another spares the engine. -/
theorem State.SparesEngine.trans (h : s.SparesEngine t) (h' : t.SparesEngine u) : s.SparesEngine u :=
  ⟨h'.me.trans h.me, h'.busy.trans h.busy, h'.responses.trans h.responses, h.walker.trans h'.walker⟩

/-- What spares the engine keeps the laws. -/
theorem State.SparesEngine.keeps (h : s.SparesEngine t) : s.KeepsEngine t where
  engine hs := by
    obtain ⟨hsound, hbusy, hresponses, hflushes⟩ := s.engineKept_iff.1 hs
    rw [State.engineKept_iff, h.me, h.responses, State.managementFlushes_eq, h.walker.flushes]
    exact ⟨hsound, h.busy.trans hbusy, hresponses, hflushes⟩
  walker := h.walker.sound

/-- A change of anything else, once the engine has been spared. -/
theorem State.SparesEngine.put (h : s.SparesEngine t) (hme : u.me = t.me := by simp)
    (hresponses : u.cl.responses = t.cl.responses := by simp) (htx : u.cl.tx = t.cl.tx := by simp)
    (htw : u.tw = t.tw := by simp) : s.SparesEngine u :=
  h.trans
    { me := hme
      busy := by rw [CardLink.busyCount, hresponses]; rfl
      responses := by rw [State.engineResponses, hresponses, htx]; rfl
      walker := htw ▸ .refl _ }

/-- A change of the walker that raises and ends no management flush, once the engine has been spared. -/
theorem State.SparesEngine.walk {w : Walker} (h : s.SparesEngine t) (hw : t.tw.Keeps w) : s.SparesEngine { t with tw := w } :=
  h.trans ⟨rfl, le_rfl, rfl, hw⟩

/-- A sound engine at hand keeps its law, with no response of its own out and no flush handed over. -/
theorem State.engineKept_of_me {m : Management} (hbusy : s.cl.busyCount ≤ busyDepth) (hresponses : s.engineResponses = 0)
    (hflushes : s.managementFlushes = 0) (hm : m.sound ∧ m.stage.atHand = true) : State.engineKept { s with me := m } :=
  (State.engineKept_atHand hm.2).2 ⟨hm.1, hbusy, hresponses, hflushes⟩

/-- A part whose engine and walker are as after a reset, with no response of the engine. -/
theorem State.KeepsEngine.of_reset (hme : t.me = .reset) (htw : t.tw = .reset) (hresponses : t.cl.responses = [])
    (htx : t.cl.tx.any OutMessage.ofEngine = false) : s.KeepsEngine t where
  engine _ := by
    simp [State.engineKept, State.engineResponses, State.managementFlushes, CardLink.busyCount, hme, htw, hresponses, htx,
      Management.reset, Walker.reset, Stage.sending]
  walker _ := by simp [State.walkerKept, htw, Walker.reset]

end Kinds

end Sys2Proof.Machine
end

section
/-! The operations that spare the engine: it neither takes, answers nor ends a request by them, and the walker goes on without a
management flush raised or ended. -/

namespace Sys2Proof.Machine

namespace State.SparesEngine

-- One theorem after another: each waiting elaboration holds a thread with memory of its own, and there are many here.
set_option Elab.async false

section Operations

variable {s t : State} (h : s.SparesEngine t)

include h

/-! ## The walker's requests and buffers -/

theorem requestFlush (ps : List Place) : s.SparesEngine (t.requestFlush ps) :=
  h.walk (Walker.requestFlush_keeps ps)

theorem discardAll (c : Counter) (bs : List BufNo) : s.SparesEngine (t.discardAll c bs) := by
  rw [State.discardAll_eq]
  exact h.put

theorem departTransmit : s.SparesEngine t.departTransmit := by
  rw [State.departTransmit_eq]
  exact (h.discardAll _ _).put rfl rfl rfl rfl

theorem emptyDelivery (c : Counter) : s.SparesEngine (t.emptyDelivery c) := by
  refine discardAll ?_ _ _
  exact h.put

theorem departure : s.SparesEngine t.departure := h.departTransmit.emptyDelivery _

theorem freeLost (d : Nat) : s.SparesEngine (t.freeLost d) := by
  induction d generalizing t with
  | zero => exact h
  | succ d ih =>
    simp only [State.freeLost]
    split
    · exact ih h.put
    · exact h

theorem emptyDeliverySlot : s.SparesEngine t.emptyDeliverySlot := by
  unfold State.emptyDeliverySlot
  split
  · exact h.put
  · exact h

/-! ## The election -/

theorem loadAnnounce : s.SparesEngine t.loadAnnounce := h.put

theorem announceRole (l : Role) : s.SparesEngine (t.announceRole l) := h.put

theorem refreshDesignated : s.SparesEngine t.refreshDesignated := h.put

theorem enterListening : s.SparesEngine t.enterListening := h.put

theorem quitDesignated (r : Role) : s.SparesEngine (t.quitDesignated r) := h.put rfl rfl rfl rfl

theorem stepDown : s.SparesEngine t.stepDown :=
  ((((h.quitDesignated .standby).departure).requestFlush [.here]).loadAnnounce).announceRole .designated

theorem withdraw : s.SparesEngine t.withdraw :=
  (((h.quitDesignated .disabled).requestFlush [.here]).loadAnnounce).announceRole .designated

theorem becomeDesignated : s.SparesEngine t.becomeDesignated := by
  refine announceRole (requestFlush (loadAnnounce ?_) _) _
  exact h.put

theorem becomeStandby : s.SparesEngine t.becomeStandby := by
  refine announceRole (loadAnnounce ?_) _
  exact h.put

theorem roleDown : s.SparesEngine t.roleDown := by
  unfold State.roleDown
  split
  · exact h
  · exact h.put
  · exact h.put
  · exact h.withdraw

theorem roleSilent : s.SparesEngine t.roleSilent := by
  unfold State.roleSilent
  split
  · exact h
  · exact h.put
  · exact h.put
  · exact ((h.quitDesignated .disabled).departure.requestFlush [.here]).announceRole .designated

theorem endListening : s.SparesEngine t.endListening := by
  simp only [State.endListening]
  split
  · exact becomeDesignated h.put
  · exact becomeStandby h.put

theorem noteDesignated (k : ReportKind) (n : Station) (p : Option Peer) : s.SparesEngine (t.noteDesignated k n p) := by
  unfold State.noteDesignated
  (repeat' split) <;> exact h.put

/-! ## Reports -/

theorem resolveDual (k : ReportKind) (n : Station) (p : Peer) : s.SparesEngine (t.resolveDual k n p) := by
  unfold State.resolveDual
  split
  · exact h.loadAnnounce
  · split
    · exact h.stepDown
    · exact h.stepDown.put

theorem actOnReport (k : ReportKind) (n : Station) (p q : Option Peer) : s.SparesEngine (t.actOnReport k n p q) := by
  unfold State.actOnReport
  split
  · split
    · exact h.becomeDesignated
    · exact h
  · split
    · split
      · exact h.resolveDual _ _ _
      · exact h
    · exact h
  all_goals exact h

theorem report (k : ReportKind) (n : Station) (p q : Option Peer) : s.SparesEngine (t.report k n p q) :=
  ((h.noteDesignated k n q).actOnReport k n p q).refreshDesignated

theorem reportRemoved (xs : List (Station × Peer)) : s.SparesEngine (t.reportRemoved xs) := by
  induction xs generalizing t with
  | nil => exact h
  | cons x xs ih => exact ih (h.report _ _ _ _)

theorem notifyDown (xs : List (Station × Peer)) : s.SparesEngine (t.notifyDown xs) := by
  induction xs generalizing t with
  | nil => exact h
  | cons x xs ih => exact ih h.put

theorem agePeers : s.SparesEngine t.agePeers := by
  have told (u : State) (hu : s.SparesEngine u) (xs : List (Station × Peer)) (ps : List Place) :
      s.SparesEngine (((u.notifyDown xs).requestFlush ps).reportRemoved xs) :=
    ((hu.notifyDown xs).requestFlush ps).reportRemoved xs
  simp only [State.agePeers]
  split
  · exact (told _ h.put _ _).loadAnnounce
  · exact told _ h.put _ _

theorem notifyPeer (n : Station) (p : Option Peer) (r : Role) : s.SparesEngine (t.notifyPeer n p r) := by
  unfold State.notifyPeer
  (repeat' split) <;> exact h.put

theorem notifyInterval (n : Station) (p : Option Peer) (i : Nat) : s.SparesEngine (t.notifyInterval n p i) := by
  unfold State.notifyInterval
  split <;> exact h.put

theorem flushPeer (n : Station) (p : Option Peer) (r : Role) : s.SparesEngine (t.flushPeer n p r) := by
  unfold State.flushPeer
  split
  · exact h.requestFlush _
  · exact h

theorem flushPrevious (n : Station) (p : Option Station) : s.SparesEngine (t.flushPrevious n p) := by
  unfold State.flushPrevious
  split
  · split
    · exact h.requestFlush _
    · exact h
  · exact h

theorem takeAnnounce (n : Station) (a : Announce) : s.SparesEngine (t.takeAnnounce n a) := by
  refine report (flushPeer (notifyInterval (notifyPeer ?_ _ _ _) _ _ _) _ _ _) _ _ _ _
  exact h.put

theorem takeTakeover (n : Station) (o : Takeover) : s.SparesEngine (t.takeTakeover n o) := by
  unfold State.takeTakeover
  split
  · exact h.flushPrevious _ _
  · refine report (flushPrevious ?_ _ _) _ _ _ _
    exact h.put

/-! ## The card link -/

theorem arbitrate : s.SparesEngine t.arbitrate := by
  refine h.trans ?_
  -- a message other than a response goes out
  have other (u : State) (m : OutMessage) (htx : t.cl.tx = none) (hm : m.ofEngine = false) (hme : u.me = t.me)
      (hlist : u.cl.responses = t.cl.responses) (hsent : u.cl.tx = some m) (htw : u.tw = t.tw) : t.SparesEngine u :=
    { me := hme
      busy := by rw [CardLink.busyCount, hlist]; rfl
      responses := by simp [State.engineResponses, hlist, hsent, htx, hm]
      walker := htw ▸ .refl _ }
  rcases t.arbitrate_cases with
    hu | ⟨htx, -, ⟨f, hu⟩ | hu | ⟨r, rs, hr, hu⟩ | ⟨e, es, -, hu⟩ | ⟨r, rs, body, -, -, hu⟩ | hu⟩ <;> rw [hu]
  case inr.inr.inr.inl =>
    -- the head of the response list goes out: the engine's are as many as before, the BUSY answers no more
    refine ⟨rfl, ?_, ?_, .refl _⟩
    · simp only [CardLink.busyCount, hr]
      exact List.Sublist.countP_le (List.sublist_cons_self r rs)
    · cases hf : r.fromEngine <;> simp [State.engineResponses, hr, htx, OutMessage.ofEngine, hf]
  case inl => exact .refl t
  all_goals exact other _ _ htx rfl rfl rfl rfl rfl

/-- A message sent that is no response of the engine (R159). -/
theorem messageSent (htx : t.cl.tx.any OutMessage.ofEngine = false) : s.SparesEngine t.messageSent :=
  h.trans ⟨rfl, le_rfl, by simp [State.engineResponses, htx], .refl _⟩

theorem linkUp : s.SparesEngine t.linkUp := by
  simp only [State.linkUp]
  split
  · refine enterListening ?_
    exact h.put
  · exact h.put

theorem goodMessage : s.SparesEngine t.goodMessage := by
  simp only [State.goodMessage]
  split
  · refine put (linkUp ?_ : s.SparesEngine (State.linkUp { t with cl.receiver := .header [] }))
    exact h.put
  · exact h.put

theorem storeBody (m : DataOutMode) (p : List Byte) : s.SparesEngine (t.storeBody m p) := h.put

theorem acceptSequence (tag : Byte) (d : Nat) : s.SparesEngine (t.acceptSequence tag d) :=
  (h.freeLost d).put rfl rfl rfl rfl

theorem takeBadDataOut (tag : Byte) (m : DataOutMode) : s.SparesEngine (t.takeBadDataOut tag m) := by
  unfold State.takeBadDataOut
  split
  · exact h.put
  · exact h.put rfl rfl rfl rfl
  · split
    case h_1 => exact h.put rfl rfl rfl rfl
    case h_2 lost _ => exact (h.acceptSequence tag lost).put

theorem receiveHeader (hd : LinkHeader) (a : List Byte) : s.SparesEngine (t.receiveHeader hd a) := by
  unfold State.receiveHeader
  split
  · simp only [State.receiveDataOut]
    split <;> exact h.put
  · exact h.put

theorem takeAccept (total : Byte) : s.SparesEngine (t.takeAccept total) := by
  unfold State.takeAccept
  split
  · exact h.put
  · exact h.put rfl rfl rfl rfl

theorem endDataIn (b : Bool) (htx : t.cl.tx.any OutMessage.ofEngine = false) : s.SparesEngine (t.endDataIn b) := by
  have sent := (h.messageSent htx).emptyDeliverySlot
  simp only [State.endDataIn, CardLink.advanceDelivered]
  split
  · exact sent.put rfl rfl rfl rfl
  · exact sent.put rfl rfl rfl rfl

/-! ## The bus port -/

theorem countCut (b : Bool) : s.SparesEngine (t.countCut b) := by
  unfold State.countCut
  (repeat' split) <;> exact h.put

theorem stepQuiet (n : Nat) : s.SparesEngine (t.stepQuiet n) := by
  unfold State.stepQuiet
  split <;> exact h.put

theorem sendNext : s.SparesEngine t.sendNext := by
  unfold State.sendNext State.sendNextData
  (repeat' split) <;> exact h.put rfl rfl rfl rfl

theorem beginRung (k : Fin 64) : s.SparesEngine (t.beginRung k) := by
  have begun : s.SparesEngine { t.stepQuiet t.bp.ladder.slots with bp.ladder := .rung k } :=
    (h.stepQuiet _).put rfl rfl rfl rfl
  simp only [State.beginRung]
  split
  · exact begun.sendNext
  · exact begun

theorem endJam : s.SparesEngine t.endJam := by
  unfold State.endJam
  split
  · simp only [State.returnControl]
    (repeat' split) <;> exact h.put
  · simp only [State.returnData]
    (repeat' split) <;> exact h.put
  · exact h

theorem passSlot : s.SparesEngine t.passSlot := by
  rcases t.passSlot_cases with hu | ⟨-, -, n, -, hu⟩ <;> rw [hu]
  · exact h
  · exact h.put

/-! ## Operating states -/

theorem enterRunning : s.SparesEngine t.enterRunning := by
  have timed := h.walk (Walker.setTimer_keeps (if t.conf.sweepPeriod = 0 then .stopped else .running t.conf.sweepPeriod))
  simp only [State.enterRunning]
  split
  · refine enterListening ?_
    exact timed.put rfl rfl rfl rfl
  · exact timed.put rfl rfl rfl rfl

theorem gainSync : s.SparesEngine t.gainSync := by
  unfold State.gainSync
  split
  · exact h.enterRunning
  · exact h

theorem enterSilent : s.SparesEngine t.enterSilent := by
  refine put (roleSilent ?_ : s.SparesEngine (t.setOpState .silent).roleSilent) rfl rfl rfl rfl
  exact h.put rfl rfl rfl rfl

theorem testDuplicate (n : Station) : s.SparesEngine (t.testDuplicate n) := by
  unfold State.testDuplicate
  split
  · refine enterSilent ?_
    exact h.put
  · exact h

theorem takeHeader (hd : Vector Byte 9) : s.SparesEngine (t.takeHeader hd) := by
  unfold State.takeHeader
  split
  · refine testDuplicate (gainSync ?_) _
    exact h.put
  · exact h.put

theorem poolDown : s.SparesEngine t.poolDown := by
  have released : s.SparesEngine t.releaseAll := h.put rfl rfl rfl rfl
  unfold State.poolDown
  split
  · exact released.departTransmit.emptyDelivery _
  · exact released.emptyDelivery _

theorem byteRead (answer : Option Byte) : s.SparesEngine (t.byteRead answer) := by
  unfold State.byteRead State.judgeImage
  (repeat' split) <;> exact h.put rfl rfl rfl rfl

/-! ## The decisions under way -/

theorem endCard (d : CardDecision) (c : Counter) : s.SparesEngine (t.endCard d c) := by
  unfold State.endCard
  split <;> exact h.put

theorem endLeading (ds : List CardDecision) : s.SparesEngine (t.endLeading ds) := by
  induction ds generalizing t with
  | nil => exact h.put rfl rfl rfl rfl
  | cons d ds ih =>
    simp only [State.endLeading]
    split
    · exact ih (h.endCard _ _)
    all_goals exact h.put

theorem startCard (b : BufNo) (body : List Byte) : s.SparesEngine (t.startCard b body) := by
  refine endLeading ?_ _
  exact h.put

theorem putCardStage (i : Nat) (d : CardDecision) (stage : CardStage) : s.SparesEngine (t.putCardStage i d stage) := by
  refine endLeading ?_ _
  exact h.put

theorem takeDataOut (tag : Byte) (m : DataOutMode) (body : List Byte) : s.SparesEngine (t.takeDataOut tag m body) := by
  unfold State.takeDataOut
  split
  · exact h
  · exact h.put rfl rfl rfl rfl
  · split
    case h_1 => exact h.put rfl rfl rfl rfl
    case h_2 lost _ =>
      refine startCard ?_ _ _
      exact (h.acceptSequence tag lost).put

theorem addTx (r : TxRecord) : s.SparesEngine (t.addTx r) := by
  unfold State.addTx
  split <;> exact h.put

theorem handOverCard (d : CardDecision) (f : CardFrame) (dest : Dest) : s.SparesEngine (t.handOverCard d f dest) := by
  unfold State.handOverCard
  split
  · exact h.endCard _ _
  · split
    · exact h.endCard _ _
    · split
      · refine addTx ?_ _
        exact h.put
      · exact h.put

theorem handOverDelivery (o : Bool) (f : DataFrame) : s.SparesEngine (t.handOverDelivery o f) := by
  simp only [State.handOverDelivery]
  (repeat' split) <;> exact h.put

theorem putBackplane (i : Nat) (d : BackplaneDecision) (stage : BackplaneStage) : s.SparesEngine (t.putBackplane i d stage) :=
  h.put rfl rfl rfl rfl

theorem handOn (c : FrameClass) : s.SparesEngine (t.handOn c) := by
  unfold State.handOn
  split
  · split
    · exact h
    · simp only [State.takeData]
      split <;> exact h.put rfl rfl rfl rfl
  · split
    · exact h
    · exact h.takeAnnounce _ _
  · split
    · exact h
    · exact h.takeTakeover _ _
  all_goals exact h

end Operations

end State.SparesEngine

end Sys2Proof.Machine
end

section
/-! What keeps the engine's law among the operations that take, answer, end or drop a request, start a flush or end one (R26, R33,
R161 to R165, R169, R173, R174), and the law of the engine and the walker over every step. -/

namespace Sys2Proof.Machine

-- One theorem after another: each waiting elaboration holds a thread with memory of its own, and there are many here.
set_option Elab.async false

variable (s : State)

/-! ## Requests taken and answered -/

/-- A request offered: queued while there is room, else answered BUSY while there is room for that (R161). -/
theorem State.offerRequest_keepsEngine (tag : Byte) (body : List Byte) : s.KeepsEngine (s.offerRequest tag body) := by
  unfold State.offerRequest
  split
  case isTrue hroom =>
    refine ⟨fun hs => ?_, id⟩
    obtain ⟨hsound, hbusy, hresponses, hflushes⟩ := s.engineKept_iff.1 hs
    rcases s.me.queued_cases ⟨tag, body⟩ s.cf.opState hsound with ⟨hidle, hm⟩ | ⟨hwork, hm⟩ <;> rw [hm]
    · rw [hidle] at hresponses hflushes
      exact State.engineKept_of_me hbusy hresponses hflushes (by simp [Management.sound, Stage.atHand])
    · obtain ⟨-, hcurrent, -⟩ := hsound
      have longer : (s.me.queue ++ [(⟨tag, body⟩ : Request)]).length ≤ requestDepth := by simpa using hroom
      exact (State.engineKept_iff _).2 ⟨⟨longer, hcurrent, fun h => absurd h hwork⟩, hbusy, hresponses, hflushes⟩
  case isFalse =>
    split
    case isTrue hroom =>
      refine ⟨fun hs => ?_, id⟩
      obtain ⟨hsound, -, hresponses, hflushes⟩ := s.engineKept_iff.1 hs
      refine (State.engineKept_iff _).2 ⟨hsound, ?_, ?_, hflushes⟩
      · simpa [CardLink.busyCount] using hroom
      · simpa [State.engineResponses] using hresponses
    case isFalse => exact State.SparesEngine.keeps (.put (.refl s))

/-- The current request can be answered: a response joins the list and is waited for, or is discarded with the request (R165). -/
def State.answerable (s : State) : Prop :=
  s.me.queue.length ≤ requestDepth ∧ s.me.current ≠ none ∧ s.cl.busyCount ≤ busyDepth ∧ s.engineResponses = 0 ∧
    s.managementFlushes = 0

/-- A request taken can be answered (R164). -/
theorem State.answerable_of_taken {s : State} {op : OpState} (hs : s.engineKept) (hst : s.me.stage = .taken op) :
    s.answerable := by
  obtain ⟨⟨hqueue, hcurrent, -⟩, hbusy, hresponses, hflushes⟩ := s.engineKept_iff.1 hs
  simp only [hst, reduceCtorEq, false_iff] at hcurrent hresponses hflushes
  exact ⟨hqueue, hcurrent, hbusy, hresponses, hflushes⟩

/-- A response made keeps the engine's law (R165). -/
theorem State.respond_engineKept {s : State} (h : s.answerable) (st : Status) (rs : List Byte) (w : Bool) :
    (s.respond st rs w).engineKept := by
  obtain ⟨hqueue, hcurrent, hbusy, hresponses, hflushes⟩ := h
  unfold State.respond
  split
  case h_1 hnone => exact absurd hnone hcurrent
  case h_2 r hr =>
    split
    case isTrue => exact State.engineKept_of_me hbusy hresponses hflushes (s.me.finish_sound _ hqueue)
    case isFalse =>
      refine (State.engineKept_iff _).2 ⟨⟨hqueue, by simp [hr], by simp⟩, ?_, ?_, hflushes⟩
      · simpa [CardLink.busyCount] using hbusy
      · simp only [State.engineResponses] at hresponses ⊢
        simp [Stage.sending]
        omega

/-- An answer made keeps the engine's law (R165). -/
theorem State.answer_engineKept {s : State} (h : s.answerable) (st : Status) (rs : List Byte) : (s.answer st rs).engineKept :=
  State.respond_engineKept h st rs false

/-- A response to a request taken (R165). -/
theorem State.respond_keepsEngine {op : OpState} (hst : s.me.stage = .taken op) (st : Status) (rs : List Byte) (w : Bool) :
    s.KeepsEngine (s.respond st rs w) where
  engine hs := State.respond_engineKept (State.answerable_of_taken hs hst) st rs w
  walker hs := by rwa [State.walkerKept_iff, State.respond_tw]

/-- An answer to a request taken (R165). -/
theorem State.answer_keepsEngine {op : OpState} (hst : s.me.stage = .taken op) (st : Status) (rs : List Byte) :
    s.KeepsEngine (s.answer st rs) := s.respond_keepsEngine hst st rs false

/-- An answer after a change that spares the engine. -/
theorem State.SparesEngine.answer {s t : State} {op : OpState} (h : s.SparesEngine t) (hst : s.me.stage = .taken op)
    (st : Status) (rs : List Byte) : s.KeepsEngine (t.answer st rs) :=
  h.keeps.trans (t.answer_keepsEngine (h.me ▸ hst) st rs)

/-- The stage of a request taken and not yet executed. -/
theorem State.stage_of_takenRequest (r : Request) (op : OpState) (h : s.takenRequest = some (r, op)) :
    s.me.stage = .taken op := by
  unfold State.takenRequest at h
  split at h
  case h_1 now hst =>
    obtain ⟨q, -, hr⟩ := Option.map_eq_some_iff.1 h
    rw [hst, (Prod.mk.inj hr).2]
  all_goals cases h

/-- A request executed keeps what its effect on a request taken keeps. -/
theorem State.execute_keepsEngine (c : ReqCode) (effect : State → List Byte → State) (u : State)
    (he : ∀ op args, s.me.stage = .taken op → s.KeepsEngine (effect s args)) (h : s.execute c effect = some u) :
    s.KeepsEngine u := by
  unfold State.execute at h
  split at h
  · cases h
  case h_2 r op htaken =>
    have hst := s.stage_of_takenRequest r op htaken
    split at h
    · cases h
      split
      · exact he op _ hst
      · exact s.answer_keepsEngine hst _ _
    · cases h

/-! ## The requests -/

section Requests

variable {op : OpState} (hst : s.me.stage = .taken op) (args : List Byte)

include hst

/-- READ_ENTRY (R167). -/
theorem State.doReadEntry_keepsEngine : s.KeepsEngine (s.doReadEntry args) := by
  unfold State.doReadEntry
  split
  · dsimp only
    split <;> exact s.answer_keepsEngine hst _ _
  · exact .refl s

/-- READ_BUCKET (R167). -/
theorem State.doReadBucket_keepsEngine : s.KeepsEngine (s.doReadBucket args) := by
  unfold State.doReadBucket
  split
  · exact s.answer_keepsEngine hst _ _
  · exact .refl s

/-- ADD_STATIC (R15, R168). -/
theorem State.doAddStatic_keepsEngine : s.KeepsEngine (s.doAddStatic args) := by
  unfold State.doAddStatic
  split
  case h_2 => exact .refl s
  case h_1 =>
    split
    case h_2 => exact s.answer_keepsEngine hst _ _
    case h_1 =>
      split
      · exact s.answer_keepsEngine hst _ _
      · simp only [State.claimStatic]
        split
        · exact State.SparesEngine.answer (.put (.refl s)) hst _ _
        · exact s.answer_keepsEngine hst _ _

/-- REMOVE (R16, R168). -/
theorem State.doRemove_keepsEngine : s.KeepsEngine (s.doRemove args) := by
  unfold State.doRemove
  split
  · dsimp only
    split
    · exact State.SparesEngine.answer (.put (.refl s)) hst _ _
    · exact s.answer_keepsEngine hst _ _
  · exact .refl s

/-- READ_PEER (R170). -/
theorem State.doReadPeer_keepsEngine : s.KeepsEngine (s.doReadPeer args) := by
  unfold State.doReadPeer
  split
  · split
    · split
      · exact s.answer_keepsEngine hst _ _
      · split <;> exact s.answer_keepsEngine hst _ _
    · exact s.answer_keepsEngine hst _ _
  · exact .refl s

/-- READ_COUNTERS (R171). -/
theorem State.doReadCounters_keepsEngine : s.KeepsEngine (s.doReadCounters args) := by
  unfold State.doReadCounters
  split
  · split
    · exact s.answer_keepsEngine hst _ _
    · dsimp only
      split
      · exact State.SparesEngine.answer (.put (.refl s)) hst _ _
      · exact s.answer_keepsEngine hst _ _
  · exact .refl s

/-- ACK_EVENT (R172). -/
theorem State.doAckEvent_keepsEngine : s.KeepsEngine (s.doAckEvent args) := by
  unfold State.doAckEvent
  split
  · split
    · exact State.SparesEngine.answer (.put (.refl s)) hst _ _
    · exact s.answer_keepsEngine hst _ _
  · exact .refl s

/-- FLUSH: the walker is handed the engine's only management flush, and the engine waits for its walk (R26, R169). -/
theorem State.doFlush_keepsEngine : s.KeepsEngine (s.doFlush args) := by
  unfold State.doFlush
  split
  case h_2 => exact .refl s
  case h_1 =>
    split
    case h_2 => exact s.answer_keepsEngine hst _ _
    case h_1 scope _ =>
      refine ⟨fun hs => ?_, fun hs => ?_⟩
      · obtain ⟨hqueue, hcurrent, hbusy, hresponses, hflushes⟩ := State.answerable_of_taken hs hst
        refine (State.engineKept_iff _).2 ⟨⟨hqueue, by simpa using hcurrent, by simp⟩, hbusy, hresponses, ?_⟩
        rw [State.managementFlushes_eq, Walker.handFlush_flushes _ _ hflushes]
        rfl
      · exact Walker.handFlush_sound _ _

end Requests

/-! ## Starts and the end of a response -/

/-- No response of the engine is being sent after a warm restart (R173, R175; log 14). -/
theorem restartMessage_ofEngine (m : Option OutMessage) : (restartMessage m).any OutMessage.ofEngine = false := by
  cases m with
  | none => rfl
  | some m => cases m <;> rfl

/-- The warm restart leaves engine and walker as after a reset, and no response of the engine (R173, R175, R188). -/
theorem State.KeepsEngine.of_warmRestart (s t : State) (straps : Station) : t.KeepsEngine (s.warmRestart straps) := by
  have link : s.cl.warmRestart.responses = [] ∧ s.cl.warmRestart.tx = restartMessage s.cl.tx := by
    unfold CardLink.warmRestart
    split <;> exact ⟨rfl, rfl⟩
  obtain ⟨hresponses, htx⟩ := link
  refine .of_reset rfl rfl hresponses ?_
  show s.cl.warmRestart.tx.any OutMessage.ofEngine = false
  rw [htx]
  exact restartMessage_ofEngine _

/-- RESTART (R173; log 13). -/
theorem State.doRestart_keepsEngine {op : OpState} (hst : s.me.stage = .taken op) (straps : Station) :
    s.KeepsEngine (s.doRestart straps) := by
  unfold State.doRestart
  split
  · exact .of_warmRestart s s straps
  · exact s.respond_keepsEngine hst _ _ _

/-- A response's end: the engine's own ends the request that waits for it, a BUSY answer nothing (R165, R173). -/
theorem State.endResponse_keepsEngine (r : Response) (straps : Station) (htx : s.cl.tx = some (.response r)) :
    s.KeepsEngine (s.endResponse r straps) := by
  have sent : s.cl.tx.any OutMessage.ofEngine = r.fromEngine := by rw [htx]; rfl
  unfold State.endResponse
  split
  case isFalse hbusy =>
    exact (State.SparesEngine.messageSent (.refl s) (by rw [sent]; exact Bool.eq_false_of_not_eq_true hbusy)).keeps
  case isTrue hown =>
    have one : s.engineResponses = s.cl.responses.countP (·.fromEngine) + 1 := by
      rw [State.engineResponses, sent, hown]; rfl
    have waits (hs : s.engineKept) : s.me.stage.sending = true := by
      obtain ⟨-, -, hresponses, -⟩ := s.engineKept_iff.1 hs
      rw [one] at hresponses
      cases hg : s.me.stage.sending <;> simp [hg] at hresponses ⊢
    have stray (h : s.me.stage.sending = false) : s.KeepsEngine s.messageSent :=
      ⟨fun hs => absurd ((waits hs).symm.trans h) (by decide), id⟩
    split
    case h_1 => exact .of_warmRestart _ s straps
    case h_2 hstage =>
      refine ⟨fun hs => ?_, id⟩
      obtain ⟨⟨hqueue, -, -⟩, hbusy, hresponses, hflushes⟩ := s.engineKept_iff.1 hs
      rw [hstage] at hresponses hflushes
      refine State.engineKept_of_me (s := s.messageSent) hbusy ?_ hflushes (s.me.finish_sound _ hqueue)
      rw [one] at hresponses
      simpa [State.engineResponses, Stage.sending] using hresponses
    case h_3 hstage => exact stray (by rw [hstage]; rfl)
    case h_4 hstage => exact stray (by rw [hstage]; rfl)
    case h_5 hstage => exact stray (by rw [hstage]; rfl)

/-! ## The walker's events -/

/-- A bucket visit leaves the engine alone and the running job in its kind (R30, R32). -/
theorem State.SparesEngine.visit (j : Job) (hj : s.tw.job = some j) : s.SparesEngine (s.visit j) := by
  rw [s.visit_eq j hj]
  refine ⟨rfl, le_rfl, rfl, .of_busy ?_ (Option.some_ne_none _)⟩
  cases j <;> simp [Walker.flushes, hj, Job.counted, Job.isManagement]

/-- The completion of a job: a management flush, then the only one, hands its count over to the engine that waits for it (R30, R33,
R169). -/
theorem State.completeJob_keepsEngine : s.KeepsEngine s.completeJob := by
  have next (hnone : s.tw.job.any Job.isManagement = false) :
      s.SparesEngine { s with tw := { s.tw with job := none, cursor := 0 }.startNext } :=
    .walk (.refl s) ⟨by rw [Walker.startNext_flushes, Walker.flushes, hnone]; simp, fun _ => s.tw.startNext_sound⟩
  simp only [State.completeJob]
  split
  case h_1 scope removed hj =>
    unfold State.flushDone
    refine ⟨fun hs => ?_, fun _ => ?_⟩
    · obtain ⟨⟨hqueue, hcurrent, -⟩, hbusy, hresponses, hflushes⟩ := s.engineKept_iff.1 hs
      have hone : 1 + s.tw.pendingFlush.isSome.toNat = (decide (s.me.stage = .waitWalk)).toNat := by
        rw [← hflushes, State.managementFlushes_eq, Walker.flushes, hj]; rfl
      have hstage : s.me.stage = .waitWalk := by
        by_contra hne
        simp [hne] at hone
      have hpending : s.tw.pendingFlush.isSome.toNat = 0 := by simpa [hstage] using hone
      rw [if_pos hstage]
      refine State.answer_engineKept (s := { s with tw := { s.tw with job := none, cursor := 0 }.startNext })
        ⟨hqueue, ?_, hbusy, ?_, ?_⟩ _ _
      · simpa [hstage] using hcurrent
      · rw [hstage] at hresponses
        exact hresponses
      · exact (Walker.startNext_flushes _).trans hpending
    · split
      · rw [State.walkerKept_iff, State.answer, State.respond_tw]
        exact s.tw.startNext_sound
      · exact s.tw.startNext_sound
  case h_2 hj => exact (next (by rw [hj]; rfl)).keeps
  case h_3 hj => exact (next (by rw [hj]; rfl)).keeps
  case h_4 hj => exact (next (by rw [hj]; rfl)).keeps

/-- The cursor moves on, or the job completes (R30). -/
theorem State.advanceCursor_keepsEngine (hj : s.tw.job ≠ none) : s.KeepsEngine s.advanceCursor := by
  unfold State.advanceCursor
  split
  · exact s.completeJob_keepsEngine
  · exact (State.SparesEngine.walk (w := { s.tw with cursor := s.tw.cursor + 1 }) (.refl s) (.of_busy rfl hj)).keeps

/-! ## Card link DOWN -/

/-- A DATA_IN that straddles the DOWN is no response. -/
theorem straddle_ofEngine (m : Option OutMessage) : (m.map straddle).any OutMessage.ofEngine = m.any OutMessage.ofEngine := by
  cases m with
  | none => rfl
  | some m => cases m <;> rfl

/-- The engine's block at card link DOWN keeps its law (R174). -/
theorem Management.sound.linkDown {m : Management} (h : m.sound) (op : OpState) (waiting : Bool) :
    (m.linkDown op waiting).sound := by
  obtain ⟨-, hcurrent, hidle⟩ := h
  unfold Management.linkDown
  split
  case h_1 hstage => exact ⟨Nat.zero_le _, hcurrent, fun _ => ⟨rfl, (hidle hstage).2⟩⟩
  case h_2 hstage => exact ⟨Nat.zero_le _, hcurrent, fun h => by simp [hstage] at h⟩
  case h_3 hstage => exact ⟨Nat.zero_le _, hcurrent, fun h => by simp [hstage] at h⟩
  case h_4 hstage =>
    split
    · exact (Management.finish_sound _ op (Nat.zero_le _)).1
    · exact ⟨Nat.zero_le _, hcurrent, fun h => by simp [hstage] at h⟩

/-- A response is out after the card link's DOWN where one was and did not wait in the list (R174). -/
theorem Management.linkDown_sending (m : Management) (op : OpState) (waiting : Bool) :
    (m.linkDown op waiting).stage.sending = (m.stage.sending && !waiting) := by
  unfold Management.linkDown
  cases hstage : m.stage <;> cases waiting <;> simp [Stage.sending, Management.finish, Management.takeNext]

/-- A walk is waited for after the card link's DOWN where one was (R174). -/
theorem Management.linkDown_waitWalk (m : Management) (op : OpState) (waiting : Bool) :
    (m.linkDown op waiting).stage = .waitWalk ↔ m.stage = .waitWalk := by
  unfold Management.linkDown
  cases hstage : m.stage <;> cases waiting <;> simp [Management.finish, Management.takeNext]

/-- The engine at card link DOWN: a request whose response still waited ends with it, one whose response goes out waits on, and any
other is marked (R174). -/
theorem State.engineDown_keepsEngine : s.KeepsEngine s.engineDown := by
  refine ⟨fun hs => (State.engineKept_iff _).2 ?_, id⟩
  obtain ⟨hsound, -, hresponses, hflushes⟩ := s.engineKept_iff.1 hs
  -- the response list is empty now, so that only a response being sent counts
  have sent : (s.cl.tx.any OutMessage.ofEngine).toNat =
      (s.me.stage.sending && !s.cl.responses.any (·.fromEngine)).toNat := by
    rw [State.engineResponses] at hresponses
    cases hwaiting : s.cl.responses.any (·.fromEngine) with
    | false =>
      have gone : s.cl.responses.countP (·.fromEngine) = 0 := List.countP_eq_zero.2 (by simpa using hwaiting)
      simpa [gone] using hresponses
    | true =>
      have waits : 0 < s.cl.responses.countP (·.fromEngine) := List.countP_pos_iff.2 (List.any_eq_true.1 hwaiting)
      have one := s.me.stage.sending.toNat_le
      simp only [Bool.not_true, Bool.and_false, Bool.toNat_false]
      omega
  refine ⟨hsound.linkDown _ _, Nat.zero_le _, ?_, ?_⟩
  · simpa [State.engineDown, State.engineResponses, Management.linkDown_sending] using sent
  · simpa [State.engineDown, State.managementFlushes, Management.linkDown_waitWalk] using hflushes

/-- The card link DOWN (R152, R173). -/
theorem State.linkDown_keepsEngine (straps : Station) : s.KeepsEngine (s.linkDown straps) := by
  have cut : s.SparesEngine { s with cl := s.cl.goDown } :=
    ⟨rfl, le_rfl, by simp only [State.engineResponses, CardLink.goDown, straddle_ofEngine], .refl _⟩
  simp only [State.linkDown]
  split
  · exact .of_warmRestart _ s straps
  · exact cut.poolDown.roleDown.keeps.trans (State.engineDown_keepsEngine _)

/-! ## Every command -/

section Effects

variable {s} {t : State} {e : Option State}

/-- A command keeps the laws where its effect does. -/
theorem takeEvent_keepsEngine (h : takeEvent s e = .next t) (he : ∀ u, e = some u → s.KeepsEngine u) : s.KeepsEngine t :=
  takeEvent_keeps s (s.KeepsEngine ·) e t (.refl s) he
    (fun u hu => hu.trans (State.SparesEngine.arbitrate (.refl u)).keeps) h

/-- An effect under a condition. -/
theorem keepsEngine_guarded {c : Prop} [Decidable c] {v : State} (h : c → s.KeepsEngine v) :
    ∀ u, (if c then some v else none) = some u → s.KeepsEngine u := by
  intro u hu
  split at hu
  case isTrue hc => cases hu; exact h hc
  case isFalse => cases hu

/-- An effect under a condition that spares the engine. -/
theorem sparesEngine_guarded {c : Prop} [Decidable c] {v : State} (h : s.SparesEngine v) :
    ∀ u, (if c then some v else none) = some u → s.KeepsEngine u := keepsEngine_guarded fun _ => h.keeps

/-- A management request. -/
theorem execute_keepsEngine {c : ReqCode} {effect : State → List Byte → State}
    (h : takeEvent s (s.execute c effect) = .next t)
    (he : ∀ op args, s.me.stage = .taken op → s.KeepsEngine (effect s args)) : s.KeepsEngine t :=
  takeEvent_keepsEngine h fun u hu => s.execute_keepsEngine c effect u he hu

end Effects

/-- The learn of a decision under way spares the engine (R45, R56). -/
theorem execLearn_keepsEngine (side : Side) (i : Nat) (t : State) (h : execLearn side i s = .next t) : s.KeepsEngine t := by
  have learned (e : Eid) (z : Zone) (p : Place) : s.SparesEngine (s.issueLearn e z p) := .put (.refl s)
  refine takeEvent_keepsEngine h fun u hu => ?_
  cases side with
  | card =>
    simp only [State.cardLearn] at hu
    (repeat' split at hu) <;> cases hu
    exact ((learned _ _ _).putCardStage i _ _).keeps
  | backplane =>
    simp only [State.backplaneLearn] at hu
    (repeat' split at hu) <;> cases hu
    exact ((learned _ _ _).putBackplane i _ _).keeps

/-- The lookup of a decision under way, or its read of the peer table, spares the engine (R47, R48, R50, R59). -/
theorem execLookup_keepsEngine (side : Side) (i : Nat) (t : State) (h : execLookup side i s = .next t) : s.KeepsEngine t := by
  refine takeEvent_keepsEngine h fun u hu => ?_
  cases side with
  | card =>
    simp only [State.cardLookup] at hu
    (repeat' split at hu) <;> cases hu
    all_goals exact ((State.SparesEngine.refl s).putCardStage i _ _).keeps
  | backplane =>
    simp only [State.backplaneLookupStep] at hu
    (repeat' split at hu) <;> cases hu
    exact ((State.SparesEngine.refl s).putBackplane i _ _).keeps

/-- A CREDIT, an EVENT or an IDLE is no response. -/
theorem not_ofEngine_of_isPlain {m : Option OutMessage} (h : m.any OutMessage.isPlain = true) :
    m.any OutMessage.ofEngine = false := by
  cases m with
  | none => rfl
  | some m => cases m <;> simp_all [OutMessage.isPlain, OutMessage.ofEngine]

/-- Every command keeps the laws. -/
theorem exec_keepsEngine (c : Instr) (t : State) (h : exec c s = .next t) : s.KeepsEngine t := by
  have same := State.SparesEngine.refl s
  have heard := same.goodMessage
  cases c with
  | deviceReset => cases h; exact .of_reset rfl rfl rfl rfl
  | resetRelease straps => cases h; exact .of_reset rfl rfl rfl rfl
  | configByteRead answer => exact takeEvent_keepsEngine h (sparesEngine_guarded (same.byteRead answer))
  | mediumGoesIdle truncated =>
    exact takeEvent_keepsEngine h (sparesEngine_guarded ((same.countCut truncated).put rfl rfl rfl rfl))
  | mediumLeavesIdle => exact takeEvent_keepsEngine h (sparesEngine_guarded same.put)
  | rungStart =>
    refine takeEvent_keepsEngine h fun u hu => ?_
    split at hu
    · obtain ⟨k, -, rfl⟩ := Option.map_eq_some_iff.1 hu
      exact (same.beginRung k).keeps
    · cases hu
  | quietCountExpiry => exact takeEvent_keepsEngine h (sparesEngine_guarded (.enterRunning same.put))
  | ownHeaderSent => exact takeEvent_keepsEngine h (sparesEngine_guarded same.put)
  | controlFrameSent => exact takeEvent_keepsEngine h (sparesEngine_guarded same.put)
  | dataFrameSent =>
    refine takeEvent_keepsEngine h fun u hu => ?_
    (repeat' split at hu) <;> cases hu
    exact same.put.keeps
  | collision => exact takeEvent_keepsEngine h (sparesEngine_guarded same.put)
  | jamEnd => exact takeEvent_keepsEngine h (sparesEngine_guarded (.endJam same.put))
  | jamSeen =>
    refine takeEvent_keepsEngine h (sparesEngine_guarded ?_)
    split
    · exact .gainSync same.put
    · exact same.put
  | headerReceived header => exact takeEvent_keepsEngine h (sparesEngine_guarded (same.takeHeader header))
  | frameReceived rest =>
    refine takeEvent_keepsEngine h fun u hu => ?_
    split at hu
    case h_1 header _ =>
      cases hu
      exact (State.SparesEngine.handOn same.put _).keeps
    all_goals cases hu
  | announceTimerExpiry =>
    refine takeEvent_keepsEngine h fun u hu => ?_
    split at hu
    · cases hu
    · cases hu
      exact same.agePeers.keeps
  | listenTimerExpiry => exact takeEvent_keepsEngine h (sparesEngine_guarded same.endListening)
  | dataOutHeader header arrived => exact takeEvent_keepsEngine h (sparesEngine_guarded (same.receiveHeader header arrived))
  | dataOut body =>
    refine takeEvent_keepsEngine h fun u hu => ?_
    split at hu
    case h_1 => exact sparesEngine_guarded ((heard.storeBody _ body).takeDataOut _ _ body) u hu
    all_goals cases hu
  | request tag body =>
    exact takeEvent_keepsEngine h (keepsEngine_guarded fun _ => heard.keeps.trans (State.offerRequest_keepsEngine _ tag body))
  | receiveReady total => exact takeEvent_keepsEngine h (sparesEngine_guarded (heard.takeAccept total))
  | idle => exact takeEvent_keepsEngine h (sparesEngine_guarded heard)
  | unusableMessage type length =>
    refine takeEvent_keepsEngine h fun u hu => ?_
    split at hu
    case h_1 => exact sparesEngine_guarded heard.put u hu
    all_goals cases hu
  | messageBadCheck =>
    refine takeEvent_keepsEngine h fun u hu => ?_
    split at hu
    case h_1 => exact sparesEngine_guarded (.takeBadDataOut same.put _ _) u hu
    case h_2 => exact sparesEngine_guarded same.put u hu
    all_goals cases hu
  | linkHeaderRejected bytes => exact takeEvent_keepsEngine h (sparesEngine_guarded same.put)
  | linkHoldExpiry straps => exact takeEvent_keepsEngine h (keepsEngine_guarded fun _ => s.linkDown_keepsEngine straps)
  | idleTimerExpiry => exact takeEvent_keepsEngine h (sparesEngine_guarded same.put)
  | dataInEnd =>
    refine takeEvent_keepsEngine h fun u hu => ?_
    split at hu
    case h_1 htx =>
      cases hu
      exact (same.endDataIn _ (by rw [htx]; rfl)).keeps
    case h_2 => cases hu
  | responseEnd straps =>
    refine takeEvent_keepsEngine h fun u hu => ?_
    split at hu
    case h_1 r htx =>
      cases hu
      exact s.endResponse_keepsEngine r straps htx
    case h_2 => cases hu
  | statusEnd =>
    refine takeEvent_keepsEngine h fun u hu => ?_
    split at hu
    case h_1 htx =>
      cases hu
      have sent := same.messageSent (by rw [htx]; rfl)
      split
      · exact sent.put.keeps
      · exact sent.keeps
    case h_2 => cases hu
  | messageEnd =>
    refine takeEvent_keepsEngine h (keepsEngine_guarded fun hplain => ?_)
    exact (same.messageSent (not_ofEngine_of_isPlain hplain)).keeps
  | readEntry => exact execute_keepsEngine h fun _ args hst => s.doReadEntry_keepsEngine hst args
  | readBucket => exact execute_keepsEngine h fun _ args hst => s.doReadBucket_keepsEngine hst args
  | addStatic => exact execute_keepsEngine h fun _ args hst => s.doAddStatic_keepsEngine hst args
  | remove => exact execute_keepsEngine h fun _ args hst => s.doRemove_keepsEngine hst args
  | flush => exact execute_keepsEngine h fun _ args hst => s.doFlush_keepsEngine hst args
  | readPeer => exact execute_keepsEngine h fun _ args hst => s.doReadPeer_keepsEngine hst args
  | readStatus => exact execute_keepsEngine h fun _ _ hst => s.answer_keepsEngine hst _ _
  | readCounters => exact execute_keepsEngine h fun _ args hst => s.doReadCounters_keepsEngine hst args
  | ackEvent => exact execute_keepsEngine h fun _ args hst => s.doAckEvent_keepsEngine hst args
  | restart straps => exact execute_keepsEngine h fun _ _ hst => s.doRestart_keepsEngine hst straps
  | badRequest =>
    refine takeEvent_keepsEngine h fun u hu => ?_
    split at hu
    case h_1 r op htaken =>
      exact keepsEngine_guarded (fun _ => s.answer_keepsEngine (s.stage_of_takenRequest r op htaken) _ _) u hu
    case h_2 => cases hu
  | sweepTimerExpiry =>
    refine takeEvent_keepsEngine h fun u hu => ?_
    split at hu
    · cases hu
    · cases hu
      exact (same.walk ((Walker.setTimer_keeps _).trans Walker.raiseSweep_keeps)).keeps
  | bucketVisit =>
    refine takeEvent_keepsEngine h fun u hu => ?_
    obtain ⟨j, hj, rfl⟩ := Option.map_eq_some_iff.1 hu
    refine (State.SparesEngine.visit s j hj).keeps.trans (State.advanceCursor_keepsEngine _ ?_)
    rw [s.visit_eq j hj]
    exact Option.some_ne_none _
  | learn side i => exact execLearn_keepsEngine s side i t h
  | lookup side i => exact execLookup_keepsEngine s side i t h
  | btqHandover =>
    refine takeEvent_keepsEngine h fun u hu => ?_
    (repeat' split at hu) <;> cases hu
    exact ((same.handOverCard _ _ _).endLeading _).keeps
  | deliveryHandover =>
    refine takeEvent_keepsEngine h fun u hu => ?_
    split at hu
    case h_2 => cases hu
    case h_1 d ds _ =>
      split at hu
      case h_1 f _ =>
        cases hu
        have ended : s.SparesEngine (State.settleBackplane { s.handOverDelivery d.overtaken f with fe.backplane := ds }) :=
          (same.handOverDelivery d.overtaken f).put rfl rfl rfl rfl
        exact ended.keeps
      all_goals cases hu

/-- Every step keeps the laws. -/
theorem step_keepsEngine (t : State) (h : step s = .next t) : s.KeepsEngine t := by
  have same := State.SparesEngine.refl s
  unfold step at h
  split at h
  · cases h
    exact same.passSlot.keeps
  case h_2 c rest _ =>
    have taken : s.SparesEngine { s with pending := rest } := same.put
    exact taken.keeps.trans (exec_keepsEngine _ c t h)

/-- Settles O59, by what each command keeps. -/
theorem engineStaysSound : Obligations.EngineStaysSound := by
  intro s t h
  obtain ⟨engine, walker⟩ := step_keepsEngine s t h
  exact ⟨engine, walker⟩

end Sys2Proof.Machine
end

section
/-! FLUSH's arguments and its hand-over to the walker (R26, R29, R169). -/

namespace Sys2Proof.Machine

-- One theorem after another: each waiting elaboration holds a thread with memory of its own, and there are many here.
set_option Elab.async false

variable (s : State)

/-! ## The scope that the arguments name -/

section Scopes

variable (own : Station) (value : Byte)

/-- Scope 0 is every DYNAMIC entry, whatever the value (R32, R129). -/
theorem scopeOfArgs_allDynamic : scopeOfArgs own 0#8 value = some .allDynamic := rfl

/-- Scope 3 is every entry, whatever the value (R32, R129). -/
theorem scopeOfArgs_everything : scopeOfArgs own 3#8 value = some .everything := rfl

/-- Scope 1 is the place the value stands for, other than the own station's (R129, R169). -/
theorem scopeOfArgs_place (p : Place) (hp : placeOfCode value = some p) (hown : p ≠ .station own) :
    scopeOfArgs own 1#8 value = some (.place p) := by
  simp [scopeOfArgs, hp, hown]

/-- Scope 2 is the zone the value stands for (R129, R169). -/
theorem scopeOfArgs_zone (z : Zone) (hz : value.toNat = z.val) : scopeOfArgs own 2#8 value = some (.zone z) := by
  simp [scopeOfArgs, (zoneOfByte_eq_some value z).2 hz]

/-- No scope is named by a scope above 3, a place that is none or the own station's, or a zone above 7 (R169). -/
theorem scopeOfArgs_none (scope : Byte)
    (h : 3 < scope.toNat ∨ (scope = 1#8 ∧ ((value ≠ 0x40#8 ∧ 31 < value.toNat) ∨ value.toNat = own.val)) ∨
      (scope = 2#8 ∧ 7 < value.toNat)) : scopeOfArgs own scope value = none := by
  rcases h with h | ⟨rfl, h⟩ | ⟨rfl, h⟩
  · unfold scopeOfArgs
    split
    case h_5 => rfl
    all_goals omega
  · rcases h with h | h
    · simp [scopeOfArgs, (placeOfCode_eq_none value).2 h]
    · simp [scopeOfArgs, (placeOfCode_eq_some value (.station own)).2 (.inr ⟨own, h, rfl⟩)]
  · simp [scopeOfArgs, (zoneOfByte_eq_none value).2 h]

end Scopes

/-! ## The hand-over -/

/-- FLUSH's execution. -/
theorem exec_flush : exec .flush s = takeEvent s (s.execute .flush State.doFlush) := rfl

/-- FLUSH with its arguments in range hands its scope to the walker and waits for the walk (R26, R169). -/
theorem State.doFlush_handed (scope value : Byte) (f : Scope) (h : scopeOfArgs s.cf.station scope value = some f) :
    s.doFlush [scope, value] = { s with tw := s.tw.handFlush f, me.stage := .waitWalk } := by
  simp only [State.doFlush, h]

/-- FLUSH with arguments out of range is refused (R169). -/
theorem State.doFlush_refused (scope value : Byte) (h : scopeOfArgs s.cf.station scope value = none) :
    s.doFlush [scope, value] = s.answer .badArgument [] := by
  simp only [State.doFlush, h]

/-- Settles O42, by the scope that the arguments name. -/
theorem flushIsHandedOver : Obligations.FlushIsHandedOver := by
  intro s op tag scope value hr hst hl hc hcur handed
  have allowed : requestAllowed .flush op = true := by simp [requestAllowed, hl, hc]
  have run : exec .flush s = .next (s.doFlush [scope, value]).arbitrate := by
    rw [exec_flush, s.execute_allowed _ _ op _ hst hcur rfl allowed]
    exact takeEvent_some s _ hr
  have hands (f : Scope) (hf : scopeOfArgs s.cf.station scope value = some f) : handed f := by
    show (_ → _) ∧ (_ → _)
    rw [run, s.doFlush_handed scope value f hf, Walker.handFlush]
    exact ⟨fun hidle => by rw [if_pos hidle]; rfl, fun hbusy => by rw [if_neg hbusy]⟩
  refine ⟨?refused, ?dynamic, ?here, ?station, ?zone, ?everything⟩
  case refused =>
    intro hd h
    rw [run, s.doFlush_refused scope value (scopeOfArgs_none _ value scope h), s.answer_made _ _ _ hcur hd]
    rfl
  case dynamic =>
    rintro rfl
    exact hands _ (scopeOfArgs_allDynamic _ value)
  case here =>
    rintro rfl rfl
    exact hands _ (scopeOfArgs_place _ _ _ rfl nofun)
  case station =>
    rintro n rfl hn hown
    refine hands _ (scopeOfArgs_place _ _ _ ((placeOfCode_eq_some value _).2 (.inr ⟨n, hn, rfl⟩)) ?_)
    simpa using hown
  case zone =>
    rintro z rfl hz
    exact hands _ (scopeOfArgs_zone _ value z hz)
  case everything =>
    rintro rfl
    exact hands _ (scopeOfArgs_everything _ value)

end Sys2Proof.Machine
end

section
/-! The jobs raised at the walker: the sweep of an expired timer and the internal flushes of the part (R25, R27 to R29). -/

namespace Sys2Proof.Machine

-- One theorem after another: each waiting elaboration holds a thread with memory of its own, and there are many here.
set_option Elab.async false

/-! ## Place sets -/

/-- Every place is in the fixed order. -/
@[simp] theorem mem_allPlaces (p : Place) : p ∈ allPlaces := by
  cases p <;> simp [allPlaces, allStations]

/-- The fixed order holds each place once. -/
theorem allPlaces_nodup : allPlaces.Nodup := by
  have stations : (allStations.map Place.station).Nodup :=
    (List.nodup_finRange 32).map fun _ _ h => Place.station.inj h
  exact List.nodup_cons.2 ⟨by simp, stations⟩

/-- The places of a union (R25). -/
theorem mem_placeUnion (a b : List Place) (p : Place) : p ∈ placeUnion a b ↔ p ∈ a ∨ p ∈ b := by
  simp [placeUnion]

/-- A union holds each place once. -/
theorem placeUnion_nodup (a b : List Place) : (placeUnion a b).Nodup := allPlaces_nodup.filter _

/-! ## Raising a job -/

section Raise

variable (w : Walker)

/-- A sweep raised while one is pending or running is merged with it (R28). -/
theorem Walker.raiseSweep_merged (h : w.sweepPending = true ∨ w.job = some .sweep) : w.raiseSweep = w :=
  if_pos (by simpa using h)

/-- A sweep raised at an IDLE engine starts at once (R27, R29). -/
theorem Walker.raiseSweep_started (hp : w.sweepPending = false) (hidle : w.job = none) : w.raiseSweep = w.start .sweep := by
  simp [Walker.raiseSweep, hp, hidle]

/-- A sweep raised during another job is pending (R27, R29). -/
theorem Walker.raiseSweep_pending (hp : w.sweepPending = false) (hbusy : w.job ≠ none) (hj : w.job ≠ some .sweep) :
    w.raiseSweep = { w with sweepPending := true } := by
  simp [Walker.raiseSweep, hp, hbusy, hj]

/-- An empty internal flush request does nothing (R25). -/
theorem Walker.requestFlush_nil : w.requestFlush [] = w := rfl

/-- An internal flush requested of an IDLE engine starts with the pending places and its own (R25, R29). -/
theorem Walker.requestFlush_started (ps : List Place) (hps : ps ≠ []) (hidle : w.job = none) :
    w.requestFlush ps =
      { w with pendingPlaces := [], job := some (.internalFlush (placeUnion w.pendingPlaces ps)), cursor := 0 } := by
  simp [Walker.requestFlush, Walker.start, hps, hidle]

/-- An internal flush requested of a BUSY engine joins the pending places (R25). -/
theorem Walker.requestFlush_pending (ps : List Place) (hps : ps ≠ []) (hbusy : w.job ≠ none) :
    w.requestFlush ps = { w with pendingPlaces := placeUnion w.pendingPlaces ps } := by
  simp [Walker.requestFlush, hps, hbusy]

end Raise

/-- SWEEP_TIMER_EXPIRY while the timer runs (R27). -/
theorem exec_sweepTimerExpiry (s : State) (c : Config) (hr : s.resetAsserted = false) (hc : s.cf.config = some c)
    (ht : s.tw.sweepTimer ≠ .stopped) :
    exec .sweepTimerExpiry s =
      .next (State.arbitrate { s with tw := { s.tw with sweepTimer := .running c.sweepPeriod }.raiseSweep }) := by
  show takeEvent s (if s.tw.sweepTimer = .stopped then none else _) = _
  rw [if_neg ht, takeEvent_some s _ hr, s.conf_eq c hc]

/-- Settles O45, by the job that runs and the sweep that is pending. -/
theorem walkerJobsAreRaised : Obligations.WalkerJobsAreRaised := by
  constructor
  · intro s c hr hc ht reloaded
    have run : exec .sweepTimerExpiry s = .next (State.arbitrate { s with tw := reloaded.raiseSweep }) :=
      exec_sweepTimerExpiry s c hr hc ht
    refine ⟨fun h => ?merged, fun hp hidle => ?started, fun hp hbusy hj => ?pending⟩
    case merged => rw [run, reloaded.raiseSweep_merged h]
    case started => rw [run, reloaded.raiseSweep_started hp hidle]; rfl
    case pending => rw [run, reloaded.raiseSweep_pending hp hbusy hj]
  · intro w places
    constructor
    · rintro rfl
      exact w.requestFlush_nil
    · intro hne
      exact ⟨placeUnion w.pendingPlaces places, placeUnion_nodup _ _, mem_placeUnion _ _,
        w.requestFlush_started places hne, w.requestFlush_pending places hne⟩

end Sys2Proof.Machine
end

section
/-! A reserve buffer named by its place in the reserve (R66, R67, R69): what its release, its new state and the search for the
oldest OPEN buffer come to. -/

namespace Sys2Proof.Machine

section Reserve

variable (s : State) {b : BufNo} {st : ReserveState} {before after : List ReserveBuf}

/-- The reserve without a buffer, at the buffer's place. -/
theorem State.dropReserve_split (hb : s.bq.reserve = before ++ ⟨b, st⟩ :: after) (hn : ∀ r ∈ before, r.num ≠ b) :
    s.dropReserve b = { s with bq.reserve := before ++ after } := by
  have erased : (s.bq.reserve.eraseP fun r => r.num == b) = before ++ after := by
    rw [hb, List.eraseP_append_right _ (by simpa using hn)]
    simp
  rw [State.dropReserve, erased]

/-- A buffer at a place of the reserve is in the reserve. -/
theorem State.inReserve_split (hb : s.bq.reserve = before ++ ⟨b, st⟩ :: after) : s.inReserve b = true := by
  simp [State.inReserve, hb]

/-- The release of a reserve buffer at its place: out of the reserve, and then the push rule (R67). -/
theorem State.releaseReserve_split (hb : s.bq.reserve = before ++ ⟨b, st⟩ :: after) (hn : ∀ r ∈ before, r.num ≠ b) :
    s.releaseReserve b = State.pushRule { s with bq.reserve := before ++ after } b := by
  rw [State.releaseReserve, if_pos (s.inReserve_split hb), s.dropReserve_split hb hn]

/-- A reserve buffer put in another state, at its place (R66). -/
theorem State.setReserve_split (new : ReserveState) (hb : s.bq.reserve = before ++ ⟨b, st⟩ :: after)
    (hn : ∀ r ∈ before ++ after, r.num ≠ b) :
    s.setReserve b new = { s with bq.reserve := before ++ ⟨b, new⟩ :: after } := by
  have same (l : List ReserveBuf) (hl : ∀ r ∈ l, r.num ≠ b) :
      (l.map fun r => if r.num = b then { r with state := new } else r) = l :=
    (List.map_congr_left fun r hr => if_neg (hl r hr)).trans l.map_id
  have mapped : (s.bq.reserve.map fun r => if r.num = b then { r with state := new } else r) =
      before ++ ⟨b, new⟩ :: after := by
    rw [hb, List.map_append, List.map_cons, if_pos rfl, same before fun r hr => hn r (List.mem_append_left _ hr),
      same after fun r hr => hn r (List.mem_append_right _ hr)]
  rw [State.setReserve, mapped]

/-- The oldest OPEN buffer is the one with none OPEN before it (R69). -/
theorem State.oldestOpen_split (hb : s.bq.reserve = before ++ ⟨b, .opened⟩ :: after)
    (hn : ∀ r ∈ before, r.state ≠ .opened) :
    s.oldestOpen = some b := by
  have skipped : before.find? (fun r => r.state == .opened) = none := by simpa using hn
  simp [State.oldestOpen, hb, List.find?_append, skipped]

/-- A buffer that is not OPEN does not count among the OPEN ones. -/
theorem State.openCount_split (hb : s.bq.reserve = before ++ ⟨b, st⟩ :: after) (hst : st ≠ .opened) :
    s.openCount = (before ++ after).countP fun r => r.state == .opened := by
  simp [State.openCount, hb, List.countP_append, hst]

/-- The first of the lost messages' buffers freed, at its place (R70). -/
theorem State.freeLost_split (n : Nat) (hb : s.bq.reserve = before ++ ⟨b, .opened⟩ :: after)
    (ho : ∀ r ∈ before, r.state ≠ .opened) (hn : ∀ r ∈ before, r.num ≠ b) :
    s.freeLost (n + 1) = ((State.pushRule { s with bq.reserve := before ++ after } b).count .linkMsgLost).freeLost n := by
  simp only [State.freeLost, s.oldestOpen_split hb ho, s.releaseReserve_split hb hn]

end Reserve

end Sys2Proof.Machine
end

section
/-! A DATA_OUT that the sequence check accepts (R69, R70, R149, R150, R156). -/

namespace Sys2Proof.Machine

section DataOut

variable {s : State} {h : LinkHeader} {got body : List Byte} {mode : DataOutMode}

/-- A good message on a link that is UP: the receiver at the next header, the link-hold timer restarted (R149, R150). -/
theorem State.goodMessage_up (hup : s.cl.link = .up) :
    s.goodMessage = { s with cl.receiver := .header [], cl.holdTimer := .running (s.cl.linkHold * 10) } := by
  simp [State.goodMessage, hup, CardLink.holdTime]

/-- DATA_OUT: the good message is stored and then taken by its mode (R149, R150). -/
theorem exec_dataOut (hr : s.resetAsserted = false) (hrec : s.cl.receiver = .body h got mode) (hl : body.length = h.length.val)
    (hg : got <+: body) :
    exec (.dataOut body) s = .next (State.arbitrate ((s.goodMessage.storeBody mode body).takeDataOut h.tag mode body)) := by
  show takeEvent s (match s.cl.receiver with | .body h got mode => _ | .hunt | .header _ | .other _ _ => none) = _
  simp only [hrec, (endsAs_iff h.length got body).2 ⟨hl, hg⟩, if_true]
  exact takeEvent_some s _ hr

/-- MESSAGE_BAD_CHECK at the end of a DATA_OUT: the receiver is at the next header, and the message is taken by its mode (R150). -/
theorem exec_messageBadCheck_dataOut (hr : s.resetAsserted = false) (hrec : s.cl.receiver = .body h got mode)
    (hl : got.length = h.length.val) :
    exec .messageBadCheck s =
      .next (State.arbitrate (State.takeBadDataOut { s with cl.receiver := .header [] } h.tag mode)) := by
  show takeEvent s (match s.cl.receiver with | .body h got mode => _ | .other h got => _ | .hunt | .header _ => none) = _
  simp only [hrec, hl, if_true]
  exact takeEvent_some s _ hr

/-- The sequence check accepts what is neither too far ahead nor beyond the OPEN buffers (R156). -/
theorem State.judgeSequence_accepted (tag : Byte) (hd : (tag - s.cl.expectedSeq).toNat < s.bq.reserve.length)
    (ho : (tag - s.cl.expectedSeq).toNat ≤ s.openCount) : s.judgeSequence tag = .accepted (tag - s.cl.expectedSeq).toNat := by
  rw [State.judgeSequence, if_neg (by omega), if_neg (by omega)]

/-- A DATA_OUT of good check that the sequence check accepts is held (R69, R156). -/
theorem State.takeDataOut_accepted (tag : Byte) (b : BufNo) (lost : Nat) (hj : s.judgeSequence tag = .accepted lost) :
    s.takeDataOut tag (.into b) body = s.holdDataOut tag b lost body := by
  simp only [State.takeDataOut, hj]

/-- A DATA_OUT of failed check that the sequence check accepts has used its credit (R69, R150, R156). -/
theorem State.takeBadDataOut_accepted (tag : Byte) (b : BufNo) (lost : Nat) (hj : s.judgeSequence tag = .accepted lost) :
    s.takeBadDataOut tag (.into b) = ((s.acceptSequence tag lost).releaseReserve b).count .linkMsgErr := by
  simp only [State.takeBadDataOut, hj]

end DataOut

/-- Settles O34: the sequence check accepts, and with nothing lost the buffer changes at its own place. -/
theorem dataOutAccepted : Obligations.DataOutAccepted := by
  intro s h got body b front back hr hup hrec hl hg hb hn d bad good
  have hfront : ∀ r ∈ front, r.num ≠ b := fun r hr => hn r (List.mem_append_left _ hr)
  have stored : s.goodMessage.storeBody (.into b) body = good := by
    rw [State.goodMessage_up hup]; rfl
  have accepts (t : State) (hres : t.bq.reserve = s.bq.reserve) (he : t.cl.expectedSeq = s.cl.expectedSeq)
      (hd : d < s.bq.reserve.length) (ho : d ≤ (front ++ back).countP fun r => r.state == .opened) :
      t.judgeSequence h.tag = .accepted d := by
    rw [State.judgeSequence_accepted, he]
    · rwa [he, hres]
    · rwa [he, t.openCount_split (hres.trans hb) (by decide)]
  have run (hd : d < s.bq.reserve.length) (ho : d ≤ (front ++ back).countP fun r => r.state == .opened) :
      exec (.dataOut body) s = .next (State.arbitrate (good.holdDataOut h.tag b d body)) ∧
        (got = body → exec .messageBadCheck s =
          .next (State.arbitrate (((bad.acceptSequence h.tag d).releaseReserve b).count .linkMsgErr))) := by
    refine ⟨?_, fun hwhole => ?_⟩
    · rw [exec_dataOut hr hrec hl hg, stored, State.takeDataOut_accepted _ b d (accepts good rfl rfl hd ho)]
    · rw [exec_messageBadCheck_dataOut hr hrec (hwhole ▸ hl), State.takeBadDataOut_accepted _ b d (accepts bad rfl rfl hd ho)]
  refine ⟨fun h0 => ?nothingLost, run, rfl, fun n x before after hx ho hx' => ?oneLost⟩
  case nothingLost =>
    obtain ⟨hgood, hbad⟩ := run (by rw [hb, h0]; simp) (h0 ▸ Nat.zero_le _)
    have held := (good.acceptSequence h.tag 0).setReserve_split .held hb hn
    have released := (bad.acceptSequence h.tag 0).releaseReserve_split hb hfront
    exact ⟨by rw [hgood, h0, State.holdDataOut, held]; rfl, fun hwhole => by rw [hbad hwhole, h0, released]; rfl⟩
  case oneLost => exact s.freeLost_split n hx ho fun r hr => hx' r (List.mem_append_left _ hr)

end Sys2Proof.Machine
end

section
/-! The start of a card decision (R41 to R46) and the two hand-overs (R51, R52, R60, R61, R71). -/

namespace Sys2Proof.Machine

variable (s : State)

/-! ## The start of a card decision -/

/-- A card decision starts behind the others, and the decisions whose turn has come end (R39, R41). -/
theorem State.startCard_eq (b : BufNo) (body : List Byte) :
    s.startCard b body = s.endLeading (s.fe.card ++ [⟨some b, s.firstStage body⟩]) :=
  s.endLeading_setCard _ _

/-- With no decision under way, none ends (R39). -/
theorem State.endLeading_nil (h : s.fe.card = []) : s.endLeading [] = s := by
  rw [State.endLeading, ← h]

/-- With the oldest decision no discard, none ends (R39). -/
theorem State.endLeading_head (l : List CardDecision) (h : (l.head?.any fun d => d.stage.isDiscard) = false) :
    s.endLeading l = { s with fe.card := l } := by
  cases l with
  | nil => rfl
  | cons d ds => exact s.endLeading_stays d ds (by simpa using h)

/-- The fields of a well-formed DATA_OUT body, by its bytes (R43, R127). -/
theorem cardFrameOfBody_eq (body : List Byte) :
    cardFrameOfBody body =
      if 7 ≤ body.length ∧ body.length ≤ 262 ∧ (body.getD 5 0).toNat ≤ 1 ∧
          word16 (body.getD 2 0) (body.getD 3 0) ≠ 0xFFFF#16 then
        (zoneOfByte (body.getD 4 0)).map fun z =>
          ⟨word16 (body.getD 0 0) (body.getD 1 0), word16 (body.getD 2 0) (body.getD 3 0), z, body.getD 5 0 == 1#8,
            body.length - 6⟩
      else none := by
  match body with
  | [] | [_] | [_, _] | [_, _, _] | [_, _, _, _] | [_, _, _, _, _] => simp [cardFrameOfBody]
  | dstHi :: dstLo :: srcHi :: srcLo :: zone :: urgent :: payload =>
    have lengths : 1 ≤ payload.length ∧ payload.length ≤ payloadLimit ↔
        7 ≤ (dstHi :: dstLo :: srcHi :: srcLo :: zone :: urgent :: payload).length ∧
          (dstHi :: dstLo :: srcHi :: srcLo :: zone :: urgent :: payload).length ≤ 262 := by
      simp [payloadLimit]; omega
    simp only [← and_assoc, ← lengths]
    cases hz : zoneOfByte zone with
    | none => simp [cardFrameOfBody, hz]
    | some z => simp [cardFrameOfBody, hz, broadcast, and_assoc]; rfl

/-- Step 1: outside RUNNING or DESIGNATED (R42). -/
theorem State.firstStage_standby (body : List Byte) (h : s.cf.opState ≠ .running ∨ s.eu.role ≠ .designated) :
    s.firstStage body = .discard .standbyDrop := if_pos h

section Designated

variable {s} {c : Config} {body : List Byte} (hc : s.cf.config = some c) (hop : s.cf.opState = .running)
  (hrole : s.eu.role = .designated)

include hop hrole

/-- Step 2: a body that is not well formed (R43). -/
theorem State.firstStage_malformed (hf : cardFrameOfBody body = none) : s.firstStage body = .discard .linkMsgErr := by
  simp [State.firstStage, hop, hrole, hf]

include hc

/-- Steps 3 to 5 of a well-formed body: the zone, the learn, the destination (R44 to R46). -/
theorem State.firstStage_wellFormed {f : CardFrame} (hf : cardFrameOfBody body = some f) :
    s.firstStage body =
      if hasZone c.zones f.zone = false then .discard .zoneDrop
      else if c.learn = true then .learn f
      else if f.dstEid = 0xFFFF#16 then .flood f
      else .lookup f := by
  simp only [State.firstStage, hop, hrole, hf, s.conf_eq c hc, ne_eq, not_true_eq_false, or_self, if_false]
  rfl

end Designated

/-- Settles O49, by the first of steps 1 to 5 that applies. -/
theorem cardDecisionStarts : Obligations.CardDecisionStarts := by
  intro s b body c hc hhead hin goes ends byte src wellFormed
  have waits (stage : CardStage) (hs : s.firstStage body = stage) (hne : s.fe.card ≠ []) : goes stage := by
    show s.startCard b body = _
    rw [s.startCard_eq, hs, s.endLeading_head]
    rwa [List.head?_append_of_ne_nil _ hne]
  have starts (stage : CardStage) (hs : s.firstStage body = stage) (hd : stage.isDiscard = false) : goes stage := by
    by_cases hne : s.fe.card = []
    · show s.startCard b body = _
      rw [s.startCard_eq, hs, hne, List.nil_append, s.endLeading_stays _ _ hd]
    · exact waits stage hs hne
  have discards (k : Counter) (hs : s.firstStage body = .discard k) : ends k := by
    refine ⟨fun hnil => ?_, waits _ hs⟩
    rw [s.startCard_eq, hs, hnil, List.nil_append, s.endLeading_ends _ _ k rfl, s.endCard_held _ k b rfl hin,
      State.endLeading_nil _ (by simpa using hnil)]
  refine ⟨fun h => discards _ (s.firstStage_standby body h), fun hop hrole => ⟨fun hm => discards _ ?_, ?_⟩⟩
  · refine State.firstStage_malformed hop hrole ?_
    rw [cardFrameOfBody_eq]
    split
    case isFalse => rfl
    case isTrue hw =>
      obtain ⟨hlow, hhigh, hurgent, hsrc⟩ := hw
      rw [(zoneOfByte_eq_none _).2 (Nat.not_le.1 fun hzone => hm ⟨hlow, hhigh, hzone, hurgent, hsrc⟩), Option.map_none]
  · intro z hw hz f
    obtain ⟨hlow, hhigh, -, hurgent, hsrc⟩ := hw
    have parsed : cardFrameOfBody body = some f := by
      rw [cardFrameOfBody_eq, if_pos ⟨hlow, hhigh, hurgent, hsrc⟩, (zoneOfByte_eq_some _ z).2 hz, Option.map_some]
    have first := State.firstStage_wellFormed hc hop hrole parsed
    refine ⟨fun h => discards _ ?_, fun h hlearn => starts _ ?_ rfl,
      fun h hlearn => ⟨fun hdst => starts _ ?_ rfl, fun hdst => starts _ ?_ rfl⟩⟩
    · rw [first, if_pos h]
    · rw [first, if_neg (by simp [f, h]), if_pos hlearn]
    · rw [first, if_neg (by simp [f, h]), if_neg (by simp [hlearn]), if_neg hdst]
    · rw [first, if_neg (by simp [f, h]), if_neg (by simp [hlearn]), if_pos hdst]

/-! ## BTQ_HANDOVER (R51, R71) -/

section Btq

variable {s} {hold : Option BufNo} {f : CardFrame} {dest : Dest} {ds : List CardDecision}

/-- BTQ_HANDOVER: the oldest card decision is handed over, and the decisions whose turn has come end (R39, R51). -/
theorem exec_btqHandover (hr : s.resetAsserted = false) (hd : s.fe.card = ⟨hold, .handover f dest⟩ :: ds) :
    exec .btqHandover s =
      .next (State.arbitrate ((s.handOverCard ⟨hold, .handover f dest⟩ f dest).endLeading ds)) := by
  show takeEvent s (match s.fe.card with | d :: ds => _ | [] => none) = _
  simp only [hd]
  exact takeEvent_some s _ hr

/-- With its hold cancelled a card frame counts STANDBY_DROP, whatever the role and the BTQs (R71; log 10). -/
theorem State.handOverCard_cancelled (d : CardDecision) (h : d.hold = none) : s.handOverCard d f dest = s.count .standbyDrop := by
  have held : s.heldBy d = none := by rw [State.heldBy, h]; rfl
  simp only [State.handOverCard, s.endCard_cancelled d _ h, held, ite_self]

/-- A full BTQ (R73). -/
theorem State.btqFull_iff (urgent : Bool) :
    s.btqFull urgent = true ↔ if urgent = true then 16 ≤ s.bq.urgentQ.length else 32 ≤ s.bq.normalQ.length := by
  cases urgent <;> exact decide_eq_true_iff

/-- A full BTQ drops the frame (R51). -/
theorem State.handOverCard_full (d : CardDecision) (hrole : s.eu.role = .designated) (hfull : s.btqFull f.urgent = true) :
    s.handOverCard d f dest = s.endCard d .btqDrop := by
  rw [State.handOverCard, if_neg (not_not.2 hrole), if_pos hfull]

/-- With room the buffer leaves the reserve for the frame's record (R51). -/
theorem State.handOverCard_room (d : CardDecision) (b : BufNo) (hrole : s.eu.role = .designated)
    (hroom : ¬s.btqFull f.urgent = true) (hb : s.heldBy d = some b) :
    s.handOverCard d f dest = (s.dropReserve b).addTx (txRecord b f dest) := by
  rw [State.handOverCard, if_neg (not_not.2 hrole), if_neg hroom, hb]

end Btq

/-! ## DELIVERY_HANDOVER (R60, R61, R76) -/

section Delivery

variable {s} {overtaken : Bool} {f : DataFrame} {ds : List BackplaneDecision}

/-- DELIVERY_HANDOVER: the oldest backplane decision is handed over, and the decisions whose turn has come end (R39, R60). -/
theorem exec_deliveryHandover (hr : s.resetAsserted = false) (hd : s.fe.backplane = ⟨overtaken, .handover f⟩ :: ds) :
    exec .deliveryHandover s =
      .next (State.arbitrate
        { s.handOverDelivery overtaken f with fe.backplane := ds.dropWhile BackplaneDecision.isOver }) := by
  show takeEvent s (match s.fe.backplane with | d :: ds => _ | [] => none) = _
  simp only [hd]
  exact takeEvent_some s _ hr

/-- A frame overtaken, or no longer for this role, is discarded (R61). -/
theorem State.handOverDelivery_discarded (h : overtaken = true ∨ s.eu.role ≠ .designated) :
    s.handOverDelivery overtaken f = s.count .roleDiscard := if_pos h

/-- A frame finds no free buffer (R60). -/
theorem State.handOverDelivery_noBuffer (ho : overtaken = false) (hrole : s.eu.role = .designated) (hfree : s.bq.free = []) :
    s.handOverDelivery overtaken f = s.count .poolDrop := by
  simp [State.handOverDelivery, ho, hrole, hfree]

/-- A frame takes the top free buffer, which a full delivery queue gives back (R60, R76). -/
theorem State.handOverDelivery_popped (b : BufNo) (rest : List BufNo) (ho : overtaken = false) (hrole : s.eu.role = .designated)
    (hfree : s.bq.free = b :: rest) :
    s.handOverDelivery overtaken f =
      if 32 ≤ s.bq.deliveryQ.length then (State.pushRule { s with bq.free := rest } b).count .deliveryDrop
      else
        { s with
          bq.free := rest, bq.contents := s.bq.contents.set b f.payload
          bq.deliveryQ := s.bq.deliveryQ ++
            [⟨b, f.dest, f.urgent, f.zone, f.dstEid, f.srcEid, f.payload.length, f.source⟩] } := by
  simp only [State.handOverDelivery, ho, hrole, hfree, Bool.false_eq_true, ne_eq, not_true_eq_false, or_self, if_false]
  rfl

end Delivery

/-- Settles O52, by the hold and the role, and then by the room in the queue. -/
theorem framesAreHandedOver : Obligations.FramesAreHandedOver := by
  intro s hr
  constructor
  · intro hold f dest ds hd ended full
    have run : exec .btqHandover s = ended (s.handOverCard ⟨hold, .handover f dest⟩ f dest) := exec_btqHandover hr hd
    refine ⟨fun h => by rw [run, State.handOverCard_cancelled _ h], ?_⟩
    rintro b before after st rfl hb hn out dropped record
    have drops (k : Counter)
        (h : s.handOverCard ⟨some b, .handover f dest⟩ f dest = s.endCard ⟨some b, .handover f dest⟩ k) :
        exec .btqHandover s = dropped k := by
      rw [run, h, s.endCard_held _ k b rfl ⟨⟨b, st⟩, by simp [hb], rfl⟩, (s.count k).releaseReserve_split hb hn]
      rfl
    refine ⟨fun h => drops _ (if_pos h),
      fun h hfull => drops _ (State.handOverCard_full _ h ((s.btqFull_iff f.urgent).2 hfull)), fun h hroom => ?room⟩
    case room =>
      have held : s.heldBy ⟨some b, .handover f dest⟩ = some b := by simp [State.heldBy, s.inReserve_split hb]
      have added : s.handOverCard ⟨some b, .handover f dest⟩ f dest = out.addTx record := by
        rw [State.handOverCard_room _ b h (mt (s.btqFull_iff f.urgent).1 hroom) held, s.dropReserve_split hb hn]
        rfl
      rw [run, added]
      exact ⟨fun hu => by rw [State.addTx, if_pos hu], fun hu => by rw [State.addTx, if_neg (by simp [record, hu])]⟩
  · intro overtaken f ds hd ended
    have run (t : State) (h : s.handOverDelivery overtaken f = t) : exec .deliveryHandover s = ended t :=
      h ▸ exec_deliveryHandover hr hd
    refine ⟨fun h => run _ (State.handOverDelivery_discarded h),
      fun ho hrole hfree => run _ (State.handOverDelivery_noBuffer ho hrole hfree), fun b rest ho hrole hfree => ?_⟩
    have popped := State.handOverDelivery_popped (f := f) b rest ho hrole hfree
    exact ⟨fun hfull => run _ (popped.trans (if_pos hfull)), fun hroom => run _ (popped.trans (if_neg (Nat.not_le.2 hroom)))⟩

end Sys2Proof.Machine
end

section
/-! A good DATA frame (R55 to R59, R89, R124): its class, and the start of its decision. -/

namespace Sys2Proof.Machine

/-! ## The class of a good DATA frame (R124) -/

section DataFrame

variable {h : Vector Byte 9} {rest : List Byte}

/-- The frame check passes where the two bytes behind the payload are its CRC (R122, R124). -/
theorem frameCheckPasses_iff :
    frameCheckPasses h rest = true ↔
      frameLength h + 2 ≤ rest.length ∧
        (rest.drop (frameLength h)).take 2 =
          [hiByte (crc16 (h.toList ++ rest.take (frameLength h))), loByte (crc16 (h.toList ++ rest.take (frameLength h)))] := by
  simp only [frameCheckPasses, Bool.and_eq_true, decide_eq_true_iff, beq_iff_eq]

/-- The destination station field names one station or ALL (R122, R124). -/
theorem frameDest_eq_some {dest : Dest}
    (hd : (∃ m : Station, frameDestField h = m.val ∧ dest = .station m) ∨ (frameDestField h = 63 ∧ dest = .all)) :
    frameDest h = some dest := by
  rcases hd with ⟨m, hm, rfl⟩ | ⟨hall, rfl⟩
  · simp only [frameDest, hm, m.isLt, dif_pos]
  · simp [frameDest, hall]

/-- A DATA frame whose check passes and whose format is right is a good one (R124). -/
theorem classify_goodData {dest : Dest} (hcheck : frameCheckPasses h rest = true) (hkind : frameKind h = 0)
    (hdest : frameDest h = some dest) (hlow : 1 ≤ frameLength h) (hhigh : frameLength h ≤ 256)
    (hsrc : frameSrcEid h ≠ 0xFFFF#16) :
    classify h rest =
      .goodData ⟨frameSource h, dest, frameUrgent h, frameZone h, frameDstEid h, frameSrcEid h,
        rest.take (frameLength h)⟩ := by
  have format : 1 ≤ frameLength h ∧ frameLength h ≤ payloadLimit ∧ frameSrcEid h ≠ broadcast := ⟨hlow, hhigh, hsrc⟩
  simp only [classify, hcheck, hkind, dataOfFrame, hdest, if_pos format, if_true]

end DataFrame

/-! ## The start of a backplane decision (R55 to R59) -/

section Start

variable {s : State}

/-- FRAME_RECEIVED: the frame begun is classed, counted and handed on (R124, R143). -/
theorem exec_frameReceived {h : Vector Byte 9} (hr : s.resetAsserted = false) (hf : s.bp.assembly = .frame h)
    (rest : List Byte) : exec (.frameReceived rest) s = .next (State.arbitrate (s.takeFrame h rest)) := by
  show takeEvent s (match s.bp.assembly with | .frame h => _ | .empty | .waitIdle => none) = _
  simp only [hf]
  exact takeEvent_some s _ hr

/-- A good DATA frame of another station is counted and taken (R55, R89, R124). -/
theorem State.takeFrame_goodData {h : Vector Byte 9} {rest : List Byte} {f : DataFrame}
    (hclass : classify h rest = .goodData f) (hsource : f.source ≠ s.cf.station) :
    s.takeFrame h rest = (State.count { s with bp.assembly := .waitIdle } .rxGood).takeData f := by
  simp only [State.takeFrame, hclass, FrameClass.counter, State.handOn]
  exact if_neg hsource

/-- With the oldest decision not over, none ends (R39). -/
theorem State.settleBackplane_head (l : List BackplaneDecision) (h : l.head?.any BackplaneDecision.isOver = false) :
    State.settleBackplane { s with fe.backplane := l } = { s with fe.backplane := l } := by
  have kept : l.dropWhile BackplaneDecision.isOver = l := by
    cases l with
    | nil => rfl
    | cons d ds => exact List.dropWhile_cons_of_neg (by simpa using h)
  simp only [State.settleBackplane, kept]

/-- The tests of R57 to R59, by the role, the zones and the destination. -/
theorem State.deliveryPlan_eq {c : Config} (hc : s.cf.config = some c) (f : DataFrame) :
    s.deliveryPlan f =
      if s.eu.role ≠ .designated ∨ hasZone c.zones f.zone = false then .letGo
      else if f.dest = .station s.cf.station ∨ (f.dest = .all ∧ f.dstEid = 0xFFFF#16) then .deliver
      else if f.dest = .all then .lookup
      else .letGo := by
  rw [State.deliveryPlan, s.conf_eq c hc]
  cases hd : f.dest with
  | station m => simp
  | all => simp; rfl

/-- What a decision waits for at its start: its learn, or without LEARN what its tests leave to do (R55 to R59). -/
def firstBackplaneStage (learn : Bool) (f : DataFrame) (plan : DeliveryPlan) : BackplaneStage :=
  if learn then .learn f plan else plan.proceed f

/-- A backplane decision starts behind the earlier ones, and those whose turn has come end (R39, R55, R56). -/
theorem State.startBackplane_eq {c : Config} (hc : s.cf.config = some c) (f : DataFrame) :
    s.startBackplane f =
      State.settleBackplane
        { s with fe.backplane := s.fe.backplane ++ [⟨false, firstBackplaneStage c.learn f (s.deliveryPlan f)⟩] } := by
  rw [State.startBackplane, s.conf_eq c hc, firstBackplaneStage]

/-- A decision with something to do stays, behind the earlier ones (R39). -/
theorem State.startBackplane_stays {c : Config} (hc : s.cf.config = some c) (f : DataFrame)
    (hhead : s.fe.backplane.head?.any BackplaneDecision.isOver = false) (stage : BackplaneStage)
    (hstage : firstBackplaneStage c.learn f (s.deliveryPlan f) = stage)
    (hgoes : BackplaneDecision.isOver ⟨false, stage⟩ = false) :
    s.startBackplane f = { s with fe.backplane := s.fe.backplane ++ [⟨false, stage⟩] } := by
  rw [State.startBackplane_eq hc, hstage, State.settleBackplane_head]
  cases hq : s.fe.backplane with
  | nil => exact hgoes
  | cons d ds => rwa [hq] at hhead

/-- Without LEARN a frame let go behind no other ends at once (R39, R57). -/
theorem State.startBackplane_letGo {c : Config} (hc : s.cf.config = some c) (f : DataFrame) (hlearn : c.learn = false)
    (hplan : s.deliveryPlan f = .letGo) (hnil : s.fe.backplane = []) : s.startBackplane f = s := by
  have ended : BackplaneDecision.isOver ⟨false, firstBackplaneStage c.learn f (s.deliveryPlan f)⟩ = true := by
    rw [hlearn, hplan]; rfl
  rw [State.startBackplane_eq hc, State.settleBackplane]
  simp only [hnil, List.nil_append, List.dropWhile_cons_of_pos ended, List.dropWhile_nil]
  rw [← hnil]

end Start

/-- Settles O21, by the state, the LEARN switch and the plan. -/
theorem goodDataFrameIsTaken : Obligations.GoodDataFrameIsTaken := by
  intro s h rest dest c hr hf hc n payload crc hlen hcrc hkind hlow hhigh hdest hsrc hn hhead f alive plan
  have classed : classify h rest = .goodData f :=
    classify_goodData (frameCheckPasses_iff.2 ⟨hlen, hcrc⟩) hkind (frameDest_eq_some hdest) hlow hhigh hsrc
  have run : exec (.frameReceived rest) s =
      .next (State.arbitrate (if s.cf.opState = .running then alive.startBackplane f else alive)) := by
    rw [exec_frameReceived hr hf, State.takeFrame_goodData classed hn]
    rfl
  have planned : alive.deliveryPlan f = plan := State.deliveryPlan_eq hc f
  have starts (hop : s.cf.opState = .running) (stage : BackplaneStage) (hstage : firstBackplaneStage c.learn f plan = stage)
      (hgoes : BackplaneDecision.isOver ⟨false, stage⟩ = false) :
      exec (.frameReceived rest) s =
        .next (State.arbitrate { alive with fe.backplane := s.fe.backplane ++ [⟨false, stage⟩] }) := by
    have stays := alive.startBackplane_stays hc f hhead stage (by rw [planned, hstage]) hgoes
    rw [run, if_pos hop, stays]
    rfl
  refine ⟨fun hop => by rw [run, if_neg hop], fun hop hlearn => starts hop _ ?learn rfl,
    fun hop hlearn => ⟨fun hplan => ?deliver, fun hplan => ?lookup, fun hplan hnil => ?letGo⟩⟩
  case learn => rw [firstBackplaneStage, if_pos hlearn]
  case deliver => exact starts hop _ (by rw [hlearn, hplan]; rfl) rfl
  case lookup => exact starts hop _ (by rw [hlearn, hplan]; rfl) rfl
  case letGo => rw [run, if_pos hop, alive.startBackplane_letGo hc f hlearn (planned.trans hplan) hnil]

end Sys2Proof.Machine
end

section
/-! The push rule and the changes of role as whole next states: credit-eligibility, the departure from DESIGNATED, LISTENING and the
step-down (R66, R67, R68, R77, R104, R114). -/

namespace Sys2Proof.Machine

-- One theorem after another: each waiting elaboration holds a thread with memory of its own.
set_option Elab.async false

variable (s : State)

/-! ## Credit-eligibility and the push rule -/

/-- Credit-eligible: the link UP, in RUNNING, with a role (R66). -/
theorem State.creditEligible_iff :
    s.creditEligible = true ↔ s.cl.link = .up ∧ s.cf.opState = .running ∧ s.eu.role ≠ .disabled := by
  simp [State.creditEligible, and_assoc]

/-- The deficit of a credit-eligible station (R66). -/
theorem State.deficit_eligible (h : s.cl.link = .up ∧ s.cf.opState = .running ∧ s.eu.role ≠ .disabled) :
    s.deficit = s.conf.localCredits - s.bq.reserve.length := if_pos (s.creditEligible_iff.2 h)

/-- A station that is not credit-eligible has no deficit (R66). -/
theorem State.deficit_ineligible (h : ¬(s.cl.link = .up ∧ s.cf.opState = .running ∧ s.eu.role ≠ .disabled)) : s.deficit = 0 :=
  if_neg (mt s.creditEligible_iff.1 h)

/-- Settles O5, by the deficit. -/
theorem pushRule : Obligations.PushRule := by
  intro s b c hc
  constructor
  · rintro ⟨hup, hrun, hrole, hroom⟩
    have deficit := s.deficit_eligible ⟨hup, hrun, hrole⟩
    rw [s.conf_eq c hc] at deficit
    exact if_pos (by omega)
  · intro h
    have deficit : s.deficit = 0 := by
      by_cases he : s.cl.link = .up ∧ s.cf.opState = .running ∧ s.eu.role ≠ .disabled
      · rw [s.deficit_eligible he, s.conf_eq c hc]
        have full : c.localCredits ≤ s.bq.reserve.length := by simpa [he.1, he.2.1, he.2.2] using h
        omega
      · exact s.deficit_ineligible he
    exact if_neg (by omega)

/-! ## The departure -/

/-- The buffer of a frame WAITING. -/
def TxSlot.waits : TxSlot → List BufNo
  | .waiting r => [r.buf]
  | .empty | .onMedium _ _ => []

/-- The slot after a departure: a frame on the medium marked, no frame WAITING (R77, R78). -/
def TxSlot.departed : TxSlot → TxSlot
  | .onMedium r _ => .onMedium r true
  | .empty | .waiting _ => .empty

/-- The buffers of the frames that wait to be sent, in the order of the departure (R77). -/
def State.waitingToSend (s : State) : List BufNo :=
  s.bq.txSlot.waits ++ s.bq.urgentQ.map TxRecord.buf ++ s.bq.normalQ.map TxRecord.buf

/-- The buffers of all the frames that wait, in the order of the departure (R77). -/
def State.waitingFrames (s : State) : List BufNo := s.waitingToSend ++ s.bq.deliveryQ.map RxRecord.buf

/-- The pool once buffers have gone by the push rule: the first `n` of them to the reserve, the rest on the stack (R67). -/
def Pool.released (p : Pool) (bs : List BufNo) (n : Nat) : Pool :=
  { p with
    reserve := p.reserve ++ (bs.take n).map fun b => ⟨b, .opened⟩
    free := (bs.drop n).reverse ++ p.free }

/-- The pool without its waiting data frames (R77). -/
def Pool.emptied (p : Pool) : Pool :=
  { p with urgentQ := [], normalQ := [], deliveryQ := [], txSlot := p.txSlot.departed }

/-- The discard of buffers, on the pool as a whole (R67, R77). -/
theorem State.discardAll_released (c : Counter) (bs : List BufNo) :
    s.discardAll c bs =
      { s with
        ec := s.ec.countN c bs.length
        bq := s.bq.released bs s.deficit
        cl.grantTotal := s.cl.grantTotal + BitVec.ofNat 8 (min s.deficit bs.length) } :=
  s.discardAll_eq c bs

/-- The departure: the waiting frames discarded in their order, a frame on the medium marked (R77, R78). -/
theorem State.departure_eq :
    s.departure =
      { s with
        ec := s.ec.countN .roleDiscard s.waitingFrames.length
        bq := (s.bq.released s.waitingFrames s.deficit).emptied
        cl.grantTotal := s.cl.grantTotal + BitVec.ofNat 8 (min s.deficit s.waitingFrames.length) } := by
  have transmit : s.departTransmit =
      { s.discardAll .roleDiscard s.waitingToSend with
        bq.urgentQ := [], bq.normalQ := [], bq.txSlot := s.bq.txSlot.departed } := by
    rw [s.departTransmit_eq]; rfl
  have delivery : s.departTransmit.bq.deliveryQ = s.bq.deliveryQ := by
    simp only [transmit, State.discardAll_released]; rfl
  have both : s.departure =
      { s.discardAll .roleDiscard s.waitingFrames with
        bq.urgentQ := [], bq.normalQ := [], bq.deliveryQ := [], bq.txSlot := s.bq.txSlot.departed } := by
    rw [State.departure, State.emptyDelivery, delivery, transmit, State.waitingFrames, State.discardAll_append]
    generalize s.discardAll .roleDiscard s.waitingToSend = x
    simp only [State.discardAll_released]
    rfl
  rw [both, State.discardAll_released]
  rfl

/-! ## LISTENING -/

/-- Going to LISTENING, field by field but for segment designated (R68, R95, R104, R118). -/
theorem State.enterListening_eq :
    s.enterListening = State.topUp (State.refreshDesignated
      { s with
        eu.role := .listening, eu.listenTimer := .running (3 * s.conf.interval)
        eu.announceHolder := some ⟨s.conf.segment, .listening, s.conf.preference, s.conf.zones, s.conf.interval⟩
        ec := s.ec.notify .roleChange (word16 s.eu.role.code 1)
        cl.statusPending := some (s.cl.statusPending.getD false) }) := rfl

/-- The top-up: as many buffers as there is room for and as the stack holds, one credit for each (R68, R154). -/
theorem State.topUp_eq (n : Nat) (hn : n = min (s.conf.localCredits - s.bq.reserve.length) s.bq.free.length) :
    s.topUp =
      { s with
        bq := { s.bq with
          free := s.bq.free.drop n
          reserve := s.bq.reserve ++ (s.bq.free.take n).map fun b => ⟨b, .opened⟩ }
        cl.grantTotal := s.cl.grantTotal + BitVec.ofNat 8 n } := by
  have moved : s.bq.free.take (s.conf.localCredits - s.bq.reserve.length) = s.bq.free.take n := by
    rw [hn, List.take_eq_take_min]
  have count : (s.bq.free.take n).length = n := by rw [List.length_take]; omega
  simp only [State.topUp, moved, count]

/-- Settles O8: the top-up of the station that has taken its role. -/
theorem listeningStarts : Obligations.ListeningStarts := by
  intro s c hc t n
  have whole : t = _ := s.enterListening_eq.trans (State.topUp_eq _ n (by simp [n, State.conf, hc]))
  rw [s.conf_eq c hc] at whole
  refine ⟨?role, ?timer, ?announce, ?takeover, ?last, ?events, ?pool, ?link, ?cf, ?lt, ?tw, ?fe, ?pt, ?bp, ?me⟩
  all_goals rw [whole]
  case link =>
    simp only [State.refreshDesignated]
    split <;> rfl
  all_goals simp

/-! ## The step-down -/

/-- Stepping down to STANDBY, whole but for segment designated (R77, R114, R118). -/
theorem State.stepDown_eq :
    s.stepDown =
      State.refreshDesignated
        { s with
          eu.role := .standby, eu.takeoverHolder := none
          eu.announceHolder := some ⟨s.conf.segment, .standby, s.conf.preference, s.conf.zones, s.conf.interval⟩
          bp.inFlight := s.bp.inFlight.map dropTakeover
          bq := (s.bq.released s.waitingFrames (s.quitDesignated .standby).deficit).emptied
          cl.grantTotal := s.cl.grantTotal + BitVec.ofNat 8 (min (s.quitDesignated .standby).deficit s.waitingFrames.length)
          cl.statusPending := some (s.cl.statusPending.getD false)
          ec := (s.ec.countN .roleDiscard s.waitingFrames.length).notify .roleChange (word16 3 2)
          tw := s.tw.requestFlush [.here] } := by
  rw [State.stepDown, State.departure_eq]
  rfl

/-- Settles O27: the departure's room is the deficit of the station once STANDBY. -/
theorem steppingDown : Obligations.SteppingDown := by
  intro s c hc waiting room
  have named : s.waitingFrames = waiting := rfl
  have deficit : (s.quitDesignated .standby).deficit = room := by
    have figures : (s.quitDesignated .standby).conf = c := s.conf_eq c hc
    simp only [State.deficit, State.creditEligible_iff, figures, room]
    simp [State.quitDesignated, State.emptyTakeover]
  rw [s.stepDown_eq, deficit, named, s.conf_eq c hc]
  rfl

end Sys2Proof.Machine
end

section
/-! What the bus port sends at its rungs, the bytes of an own frame, its end, and the end of its jam (R74, R75, R78, R135 to R141). -/

namespace Sys2Proof.Machine

-- One theorem after another: each waiting elaboration holds a thread with memory of its own.
set_option Elab.async false

/-- An event whose condition holds occurs. -/
theorem takeEvent_occurs {s t : State} {c : Prop} [Decidable c] (hr : s.resetAsserted = false) (hc : c) :
    takeEvent s (if c then some t else none) = .next t.arbitrate := by
  rw [if_pos hc, takeEvent_some s t hr]

/-! ## The rung's work (R135) -/

section Rung

variable {s : State} {k : Fin 64}

/-- When the station uses a rung: its urgent rung with urgent work, its normal rung with any (R135). -/
theorem State.usesRung_iff :
    s.usesRung k = true ↔ (k.val = s.rungOffset.val ∧ s.urgentWork = true) ∨
      (k.val = 32 + s.rungOffset.val ∧ (s.urgentWork = true ∨ s.normalWork = true)) := by
  simp [State.usesRung]

/-- RUNG_START in RUNNING: the rung that follows begins (R134). -/
theorem exec_rungStart_running (hr : s.resetAsserted = false) (hoff : s.bp.transmitter = .off) (hrun : s.cf.opState = .running)
    (hk : (∃ n, s.bp.ladder = .gap n) ∧ k = 0 ∨ ∃ j, s.bp.ladder = .rung j ∧ k = j + 1) :
    exec .rungStart s = .next (s.beginRung k).arbitrate := by
  have follows : s.bp.ladder.nextRung = some k := by
    rcases hk with ⟨⟨n, hn⟩, rfl⟩ | ⟨j, hj, rfl⟩
    · rw [hn]; rfl
    · rw [hj]; rfl
  have begins : (if s.bp.transmitter = .off ∧ ¬s.quietDue then s.bp.ladder.nextRung.map s.beginRung else none) =
      some (s.beginRung k) := by
    rw [if_pos ⟨hoff, by simp [State.quietDue, hrun]⟩, follows, Option.map_some]
  show takeEvent s (if s.bp.transmitter = .off ∧ ¬s.quietDue then s.bp.ladder.nextRung.map s.beginRung else none) = _
  rw [begins]
  exact takeEvent_some s _ hr

/-- The station may send at the rung that begins (R136). -/
structure State.MaySend (s : State) : Prop where
  running : s.cf.opState = .running
  synced : s.bp.sync = .synced
  idle : s.bp.medium = .idle

/-- Outside SYNCING no slot is counted (R144). -/
theorem State.stepQuiet_running (n : Nat) (hrun : s.cf.opState = .running) : s.stepQuiet n = s := if_neg (by simp [hrun])

/-- A rung that the station uses begins: it sends (R136). -/
theorem State.beginRung_used (h : s.MaySend) (hu : s.usesRung k = true) :
    s.beginRung k = State.sendNext { s with bp.ladder := .rung k } := by
  have may : State.maySend { s with bp.ladder := .rung k } = true := by
    simp [State.maySend, h.running, h.synced, h.idle]
  rw [State.beginRung, s.stepQuiet_running _ h.running]
  exact if_pos (Bool.and_eq_true_iff.2 ⟨may, hu⟩)

/-- A rung that the station does not use begins: the position moves (R134). -/
theorem State.beginRung_unused (h : s.MaySend) (hu : s.usesRung k = false) :
    s.beginRung k = { s with bp.ladder := .rung k } := by
  have unused : State.usesRung { s with bp.ladder := .rung k } k = false := hu
  rw [State.beginRung, s.stepQuiet_running _ h.running]
  exact if_neg (by rw [unused, Bool.and_false]; exact Bool.false_ne_true)

/-! ## What is sent (R74) -/

/-- The bus port once its own frame is on the medium (R132, R134, R140; log 17). -/
def BusPort.driving (b : BusPort) : BusPort :=
  { b with ladder := .busy, medium := .carrier, quietCount := 0, transmitter := .frame, assembly := .waitIdle }

/-- The TAKEOVER goes first (R74). -/
theorem State.sendNext_takeover {t : Takeover} (ht : s.eu.takeoverHolder = some t) :
    s.sendNext = { s with eu.takeoverHolder := none, bp := { s.bp.driving with inFlight := some ⟨.takeover t, false⟩ } } := by
  simp only [State.sendNext, ht]; rfl

/-- The ANNOUNCE goes next (R74). -/
theorem State.sendNext_announce {a : Announce} (ht : s.eu.takeoverHolder = none) (ha : s.eu.announceHolder = some a) :
    s.sendNext = { s with eu.announceHolder := none, bp := { s.bp.driving with inFlight := some ⟨.announce a, false⟩ } } := by
  simp only [State.sendNext, ht, ha]; rfl

section Data

variable (ht : s.eu.takeoverHolder = none) (ha : s.eu.announceHolder = none)

include ht ha

/-- With both holders empty a frame WAITING goes (R74). -/
theorem State.sendNext_waiting {x : TxRecord} (hx : s.bq.txSlot = .waiting x) :
    s.sendNext = { s with bq.txSlot := .onMedium x false, bp := s.bp.driving } := by
  simp only [State.sendNext, State.sendNextData, ht, ha, hx]; rfl

/-- With the slot empty too the urgent head goes (R74). -/
theorem State.sendNext_urgent {x : TxRecord} {xs : List TxRecord} (he : s.bq.txSlot = .empty) (hu : s.bq.urgentQ = x :: xs) :
    s.sendNext = { s with bq.urgentQ := xs, bq.txSlot := .onMedium x false, bp := s.bp.driving } := by
  simp only [State.sendNext, State.sendNextData, ht, ha, he, hu]; rfl

/-- The normal head goes last (R74). -/
theorem State.sendNext_normal {x : TxRecord} {xs : List TxRecord} (he : s.bq.txSlot = .empty) (hu : s.bq.urgentQ = [])
    (hn : s.bq.normalQ = x :: xs) :
    s.sendNext = { s with bq.normalQ := xs, bq.txSlot := .onMedium x false, bp := s.bp.driving } := by
  simp only [State.sendNext, State.sendNextData, ht, ha, he, hu, hn]; rfl

end Data

end Rung

/-- Settles O13: whether the rung is used decides, and then what is first in the order of R74. -/
theorem rungSends : Obligations.RungSends := by
  intro s k hr hoff hrun hsync hidle hk r own bp
  have may : s.MaySend := ⟨hrun, hsync, hidle⟩
  let begun : State := { s with bp.ladder := .rung k }
  have sends (hu : s.usesRung k = true) {t : State} (ht : begun.sendNext = t) :
      exec .rungStart s = .next t.arbitrate := by
    rw [exec_rungStart_running hr hoff hrun hk, State.beginRung_used may hu, ht]
  have passes (hu : s.usesRung k = false) : exec .rungStart s = .next begun.arbitrate := by
    rw [exec_rungStart_running hr hoff hrun hk, State.beginRung_unused may hu]
  have urgent (hown : own) (hw : s.urgentWork = true) : s.usesRung k = true :=
    State.usesRung_iff.2 (hown.imp (⟨·, hw⟩) (⟨·, .inl hw⟩))
  have normal (hn : k.val = 32 + r.val) (hw : s.normalWork = true) : s.usesRung k = true :=
    State.usesRung_iff.2 (.inr ⟨hn, .inr hw⟩)
  have idles (hown : k.val = r.val) (hw : s.urgentWork = false) : s.usesRung k = false := by
    rw [Bool.eq_false_iff, Ne, State.usesRung_iff, hw]
    have offset : r = s.rungOffset := rfl
    rintro (⟨-, h⟩ | ⟨h, -⟩)
    · cases h
    · rw [← offset] at h; omega
  refine ⟨fun t hown ht => sends (urgent hown (by simp [State.urgentWork, ht])) (State.sendNext_takeover (s := begun) ht),
    fun a hown ht ha => sends (urgent hown (by simp [State.urgentWork, ha])) (State.sendNext_announce (s := begun) ht ha),
    fun ht ha => ⟨?waiting, ?urgentHead, ?normalHead, ?normalWaits, ?nothingUrgent⟩⟩
  case waiting =>
    intro x hx hrung
    refine sends ?_ (State.sendNext_waiting (s := begun) ht ha hx)
    rcases hrung with ⟨hu, hown⟩ | hnormal
    · exact urgent (.inl hown) (by simp [State.urgentWork, hx, hu])
    · cases hu : x.urgent with
      | true => exact urgent (.inr hnormal) (by simp [State.urgentWork, hx, hu])
      | false => exact normal hnormal (by simp [State.normalWork, hx, hu])
  case urgentHead =>
    exact fun x xs he hu hown =>
      sends (urgent hown (by simp [State.urgentWork, he, hu])) (State.sendNext_urgent (s := begun) ht ha he hu)
  case normalHead =>
    exact fun x xs he hu hn hown =>
      sends (normal hown (by simp [State.normalWork, he, hn])) (State.sendNext_normal (s := begun) ht ha he hu hn)
  case normalWaits => exact fun x hx hu hown => passes (idles hown (by simp [State.urgentWork, ht, ha, hx, hu]))
  case nothingUrgent => exact fun he hu hown => passes (idles hown (by simp [State.urgentWork, ht, ha, he, hu]))

/-! ## The own frame's bytes and its end (R122, R137 to R139, R141) -/

section Sending

variable {s : State}

/-- The bytes on the medium of a control frame in flight (R122, R138). -/
theorem State.frameBeingSent_control (htx : s.bp.transmitter = .frame) {c : InFlight} (hc : s.bp.inFlight = some c) :
    s.frameBeingSent = some (withSync (controlFrameBytes s.cf.station c.frame)) := by
  simp only [State.frameBeingSent, htx, hc, if_true]

/-- The bytes on the medium of a data frame (R122, R139). -/
theorem State.frameBeingSent_data (htx : s.bp.transmitter = .frame) (hc : s.bp.inFlight = none) {r : TxRecord} {marked : Bool}
    (hs : s.bq.txSlot = .onMedium r marked) :
    s.frameBeingSent = some (withSync (dataFrameBytes s.cf.station r s.bq.contents[r.buf])) := by
  simp only [State.frameBeingSent, htx, hc, hs, if_true]

/-- A flag as the bit it is coded in. -/
theorem urgentBit (b : Bool) : b.toNat * 32 = if b then 32 else 0 := by cases b <;> rfl

/-- DATA_FRAME_SENT (R75, R78, R139). -/
theorem exec_dataFrameSent (hr : s.resetAsserted = false) (htx : s.bp.transmitter = .frame) (hc : s.bp.inFlight = none)
    {r : TxRecord} {marked : Bool} (hs : s.bq.txSlot = .onMedium r marked) :
    exec .dataFrameSent s =
      .next (State.arbitrate
        ((State.pushRule { s with bp.transmitter := .off, bq.txSlot := .empty } r.buf).count .txData)) := by
  show takeEvent s (if s.bp.transmitter = .frame ∧ s.bp.inFlight = none then
    (match s.bq.txSlot with | .onMedium r _ => _ | .empty | .waiting _ => none) else none) = _
  simp only [hs, if_pos (And.intro htx hc)]
  exact takeEvent_some s _ hr

end Sending

/-- Settles O15: the bytes by the kind of frame, the ends each as its own event. -/
theorem ownFrameIsSent : Obligations.OwnFrameIsSent := by
  intro s hr htx frame
  refine ⟨fun a mark hc => ?announce, fun x mark hc => ?takeover, fun r marked hc hs => ?data, ?header, fun c hc => ?control,
    fun r marked hc hs => ?sent, ?collision⟩
  case announce =>
    rw [State.frameBeingSent_control htx hc]
    rfl
  case takeover =>
    rw [State.frameBeingSent_control htx hc]
    rfl
  case data =>
    rw [State.frameBeingSent_data htx hc hs]
    simp only [dataFrameBytes, buildFrame, urgentBit]
    rfl
  case header => exact takeEvent_occurs hr htx
  case control => exact takeEvent_occurs hr ⟨htx, by rw [hc]; rfl⟩
  case sent => exact exec_dataFrameSent hr htx hc hs
  case collision => exact takeEvent_occurs hr htx

/-! ## The end of the jam (R138, R139, R141) -/

section Jam

variable {s : State}

/-- JAM_END: the transmitter goes OFF, and the frame's end is a collision's (R141). -/
theorem exec_jamEnd (hr : s.resetAsserted = false) (htx : s.bp.transmitter = .jam) :
    exec .jamEnd s = .next (State.endJam { s with bp.transmitter := .off }).arbitrate := takeEvent_occurs hr htx

/-- The jam of a control frame ends (R138). -/
theorem State.endJam_control {c : InFlight} (hc : s.bp.inFlight = some c) : s.endJam = s.returnControl c := by
  simp only [State.endJam, hc]

/-- The jam of a data frame ends (R139). -/
theorem State.endJam_data (hc : s.bp.inFlight = none) {r : TxRecord} {marked : Bool} (hs : s.bq.txSlot = .onMedium r marked) :
    s.endJam = s.returnData r marked := by
  simp only [State.endJam, hc, hs]

/-- A control frame is dropped for its mark, or where its holder has been loaded again (R113, R138). -/
theorem State.returnControl_dropped (c : InFlight)
    (h : c.dropMark = true ∨ ((∃ a, c.frame = .announce a) ∧ s.eu.announceHolder ≠ none) ∨
      ((∃ t, c.frame = .takeover t) ∧ s.eu.takeoverHolder ≠ none)) :
    s.returnControl c = { s with bp.inFlight := none } := by
  rcases h with h | ⟨⟨a, ha⟩, h⟩ | ⟨⟨t, ht⟩, h⟩
  · exact if_pos h
  · simp only [State.returnControl, ha, if_neg h, ite_self]
  · simp only [State.returnControl, ht, if_neg h, ite_self]

end Jam

/-- Settles O16, by the frame whose jam ends. -/
theorem jamEnds : Obligations.JamEnds := by
  intro s hr htx off
  let stopped : State := { s with bp.transmitter := .off }
  have ends : exec .jamEnd s = .next stopped.endJam.arbitrate := exec_jamEnd hr htx
  have control (c : InFlight) (hc : s.bp.inFlight = some c) : exec .jamEnd s = .next (stopped.returnControl c).arbitrate := by
    rw [ends, State.endJam_control (s := stopped) hc]
  refine ⟨fun a hc hh => ?announce, fun t hc hh => ?takeover, fun c hc hd => ?dropped, fun r hc => ?data⟩
  case announce =>
    have back : stopped.returnControl ⟨.announce a, false⟩ = _ := if_pos hh
    rw [control _ hc, back]
  case takeover =>
    have back : stopped.returnControl ⟨.takeover t, false⟩ = _ := if_pos hh
    rw [control _ hc, back]
  case dropped => rw [control c hc, State.returnControl_dropped (s := stopped) c hd]
  case data =>
    intro emptied
    have data (marked : Bool) (hs : s.bq.txSlot = .onMedium r marked) :
        exec .jamEnd s = .next (stopped.returnData r marked).arbitrate := by
      rw [ends, State.endJam_data (s := stopped) hc hs]
    have cleared : off = stopped.bp := by simp only [off, stopped, ← hc]
    refine ⟨fun hs hlow => ?waits, fun hs hlast => ?excess, fun hs => ?marked⟩
    case waits =>
      have waits : stopped.returnData r false = _ := if_neg (show ¬attemptLimit ≤ r.attempts + 1 by unfold attemptLimit; omega)
      rw [data false hs, waits, cleared]
    case excess =>
      have drops : stopped.returnData r false = _ := if_pos (show attemptLimit ≤ r.attempts + 1 by unfold attemptLimit; omega)
      rw [data false hs, drops]
      simp only [emptied, cleared]
      rfl
    case marked =>
      rw [data true hs]
      simp only [emptied, cleared]
      rfl

end Sys2Proof.Machine
end

section
/-! The card link's events: the messages it sends end, a header takes a buffer, a DATA_OUT is refused, the link goes DOWN (R69, R76,
R149 to R159). -/

namespace Sys2Proof.Machine

-- One theorem after another: each waiting elaboration holds a thread with memory of its own.
set_option Elab.async false

/-! ## Messages sent (R76, R158, R159) -/

section Sent

variable {s : State}

/-- DATA_IN_END (R158). -/
theorem exec_dataInEnd (hr : s.resetAsserted = false) {tag : Byte} {body : List Byte} {straddled : Bool}
    (htx : s.cl.tx = some (.dataIn tag body straddled)) :
    exec .dataInEnd s = .next (s.endDataIn straddled).arbitrate := by
  show takeEvent s (match s.cl.tx with | some (.dataIn _ _ straddled) => _ | _ => none) = _
  simp only [htx]
  exact takeEvent_some s _ hr

/-- STATUS_END (R153). -/
theorem exec_statusEnd (hr : s.resetAsserted = false) {op : OpState} {role : Role} {seg : Option Station} {restart : Bool}
    (htx : s.cl.tx = some (.status op role seg restart)) :
    exec .statusEnd s =
      .next (State.arbitrate (if restart then { s.messageSent with cl.restartWindow := false } else s.messageSent)) := by
  show takeEvent s (match s.cl.tx with | some (.status _ _ _ restart) => _ | _ => none) = _
  simp only [htx]
  exact takeEvent_some s _ hr

/-- The end of a DATA_IN: its buffer by the push rule, the delivered total moved on unless the link has gone DOWN (R76, R158). -/
theorem State.endDataIn_eq (straddled : Bool) {r : RxRecord} (hslot : s.bq.deliverySlot = some r) :
    s.endDataIn straddled =
      { (State.pushRule { s.messageSent with bq.deliverySlot := none } r.buf).count .delivered with
        cl.deliveredTotal := if straddled = true then s.cl.deliveredTotal else s.cl.deliveredTotal + 1 } := by
  have emptied : s.messageSent.emptyDeliverySlot = State.pushRule { s.messageSent with bq.deliverySlot := none } r.buf := by
    simp only [State.emptyDeliverySlot, State.messageSent_bq, hslot]
  have total := State.pushRule_deliveredTotal { s.messageSent with bq.deliverySlot := none } r.buf
  simp only [State.endDataIn, emptied]
  generalize State.pushRule { s.messageSent with bq.deliverySlot := none } r.buf = t at total
  have kept : t.cl.deliveredTotal = s.cl.deliveredTotal := total
  rw [← kept]
  cases straddled <;> rfl

end Sent

/-- Settles O35, message by message. -/
theorem messagesEnd : Obligations.MessagesEnd := by
  intro s hr idleTimer sent
  have isSent : s.messageSent = sent := rfl
  refine ⟨fun h => ?plain, fun op role seg h => ?status, fun op role seg h => ?restart, fun tag body straddled r h hslot => ?dataIn,
    fun left hup h => ?idle⟩
  case plain =>
    have plain : s.cl.tx.any OutMessage.isPlain = true := by
      rcases h with ⟨total, h⟩ | ⟨e, h⟩ | h <;> rw [h] <;> rfl
    rw [← isSent]
    exact takeEvent_occurs hr plain
  case status => exact exec_statusEnd hr h
  case restart => exact exec_statusEnd hr h
  case dataIn => exact ⟨_, rfl, by rw [exec_dataInEnd hr h, State.endDataIn_eq straddled hslot]; rfl⟩
  case idle => exact takeEvent_occurs hr ⟨hup, by rw [h]; rfl⟩

/-! ## The header of a DATA_OUT (R69, R149, R155) -/

section Header

variable {s : State} {h : LinkHeader} {got : List Byte}

/-- A DATA_OUT is stale while the link is DOWN or the restart window open (R155). -/
theorem State.dataOutMode_stale (hw : s.cl.link = .down ∨ s.cl.restartWindow = true) : s.dataOutMode = .stale := if_pos hw

/-- Else it takes the oldest OPEN buffer, or is an overrun (R69). -/
theorem State.dataOutMode_open (hup : s.cl.link = .up) (hw : s.cl.restartWindow = false) :
    s.dataOutMode = match s.oldestOpen with | some b => .into b | none => .overrun := if_neg (by simp [hup, hw])

/-- With no OPEN buffer there is no oldest one. -/
theorem State.oldestOpen_none (hn : ∀ r ∈ s.bq.reserve, r.state ≠ .opened) : s.oldestOpen = none := by
  simpa [State.oldestOpen] using hn

/-- DATA_OUT_HEADER at the header's place, with no byte beyond the body's length (R149). -/
theorem exec_dataOutHeader (hr : s.resetAsserted = false) (ha : s.headerGoesOn (linkHeaderBytes h)) :
    exec (.dataOutHeader h got) s = .next (s.receiveHeader h got).arbitrate :=
  takeEvent_occurs hr ((s.awaitsHeader_iff _).2 ha)

/-- The header of a message other than a DATA_OUT (R149). -/
theorem State.receiveHeader_other (hl : got.length ≤ h.length.val) (ht : h.type ≠ typeDataOut) :
    s.receiveHeader h got = { s with cl.receiver := .other h got } := by
  rw [State.receiveHeader, if_neg ht, List.take_of_length_le hl]

/-- The header of a DATA_OUT that stores nothing (R155). -/
theorem State.receiveHeader_unstored (hl : got.length ≤ h.length.val) (ht : h.type = typeDataOut) {mode : DataOutMode}
    (hm : s.dataOutMode = mode) (hn : mode = .stale ∨ mode = .overrun) :
    s.receiveHeader h got = { s with cl.receiver := .body h got mode } := by
  rw [State.receiveHeader, if_pos ht, List.take_of_length_le hl, State.receiveDataOut, hm]
  rcases hn with rfl | rfl <;> rfl

/-- The header of a DATA_OUT that takes a buffer (R69). -/
theorem State.receiveHeader_into (hl : got.length ≤ h.length.val) (ht : h.type = typeDataOut) {b : BufNo}
    (hm : s.dataOutMode = .into b) :
    s.receiveHeader h got =
      { (s.setReserve b .receiving).writeBuffer b (storedPayload got) with cl.receiver := .body h got (.into b) } := by
  rw [State.receiveHeader, if_pos ht, List.take_of_length_le hl, State.receiveDataOut, hm]
  rfl

end Header

/-- Settles O32, by the type and by what the DATA_OUT writes into. -/
theorem dataOutHeaderTakes : Obligations.DataOutHeaderTakes := by
  intro s h got hr hl n ha
  have takes {t : State} (ht : s.receiveHeader h got = t) : exec (.dataOutHeader h got) s = .next t.arbitrate := by
    rw [exec_dataOutHeader hr ha, ht]
  refine ⟨fun ht => takes (State.receiveHeader_other hl ht), fun ht => ⟨fun hw => ?stale, fun hup hw hn => ?overrun,
    fun front back b hup hw hb ho hu => ?into⟩⟩
  case stale => exact takes (State.receiveHeader_unstored hl ht (State.dataOutMode_stale hw) (.inl rfl))
  case overrun =>
    refine takes (State.receiveHeader_unstored hl ht ?_ (.inr rfl))
    rw [State.dataOutMode_open hup hw, State.oldestOpen_none hn]
  case into =>
    have mode : s.dataOutMode = .into b := by rw [State.dataOutMode_open hup hw, s.oldestOpen_split hb ho]
    refine takes ?_
    rw [State.receiveHeader_into hl ht mode, s.setReserve_split .receiving hb hu]
    rfl

/-! ## A DATA_OUT refused (R69, R155, R156) -/

section Refused

variable {s : State}

/-- A link-hold timer that has just been loaded is loaded again. -/
theorem State.holdTimer_loaded {t : State} (h : t.cl.holdTimer = .running (t.cl.linkHold * 10)) :
    { t with cl.holdTimer := t.cl.holdTime } = t := by
  simp only [CardLink.holdTime, ← h]

/-- A link that comes UP has its link-hold timer loaded (R151). -/
theorem State.linkUp_holdTimer : s.linkUp.cl.holdTimer = .running (s.linkUp.cl.linkHold * 10) := by
  simp only [State.linkUp]
  split
  · simp [CardLink.holdTime]
  · simp [CardLink.holdTime]

/-- What every good message does first, whatever it is (R149, R150, R151). -/
theorem State.goodMessage_eq : s.goodMessage = s.heard := by
  cases hl : s.cl.link with
  | up => rw [State.goodMessage_up hl, State.heard, if_pos hl]
  | down =>
    have comesUp : s.goodMessage = State.linkUp { s with cl.receiver := .header [] } := by
      simp only [State.goodMessage, if_pos hl]
      exact State.holdTimer_loaded State.linkUp_holdTimer
    rw [comesUp, State.heard, if_neg (by simp [hl])]
    rfl

/-- The sequence check refuses a gap of the reserve size or more (R156). -/
theorem State.judgeSequence_far (tag : Byte) (hd : s.bq.reserve.length ≤ (tag - s.cl.expectedSeq).toNat) :
    s.judgeSequence tag = .refused 1 := if_pos hd

/-- The sequence check refuses a gap beyond the OPEN buffers (R156). -/
theorem State.judgeSequence_beyond (tag : Byte) (hd : (tag - s.cl.expectedSeq).toNat < s.bq.reserve.length)
    (ho : s.openCount < (tag - s.cl.expectedSeq).toNat) : s.judgeSequence tag = .refused 2 := by
  rw [State.judgeSequence, if_neg (by omega), if_pos ho]

/-- A DATA_OUT that the sequence check refuses, its check good or failed (R156). -/
theorem State.takeDataOut_refused (tag : Byte) (b : BufNo) (body : List Byte) {cause : Nat}
    (hj : s.judgeSequence tag = .refused cause) :
    s.takeDataOut tag (.into b) body = s.refuseSequence b cause tag ∧
      s.takeBadDataOut tag (.into b) = s.refuseSequence b cause tag := by
  simp only [State.takeDataOut, State.takeBadDataOut, hj, and_self]

end Refused

/-- Settles O33: what the DATA_OUT took, and for a buffer which bound of the sequence check its tag passes. -/
theorem dataOutRefused : Obligations.DataOutRefused := by
  intro s h got mode body hr hrec hl hg bad refused
  have good : exec (.dataOut body) s = .next (State.arbitrate ((s.heard.storeBody mode body).takeDataOut h.tag mode body)) := by
    rw [exec_dataOut hr hrec hl hg, State.goodMessage_eq]
  have failed (hwhole : got = body) :
      exec .messageBadCheck s = .next (State.arbitrate (bad.takeBadDataOut h.tag mode)) :=
    exec_messageBadCheck_dataOut hr hrec (hwhole ▸ hl)
  refine ⟨?stale, ?overrun, fun b front back hup hm hb hn => ?into⟩
  case stale =>
    rintro rfl
    exact ⟨good, failed⟩
  case overrun =>
    rintro rfl
    exact ⟨good, failed⟩
  case into =>
    intro good' d again opens
    subst hm
    have heard : s.heard.storeBody (.into b) body = good' := by
      rw [← State.goodMessage_eq, State.goodMessage_up hup]
      rfl
    rw [heard] at good
    have counted (t : State) (ht : t.bq.reserve = s.bq.reserve) : t.openCount = opens :=
      t.openCount_split (ht.trans hb) (by decide)
    have reopened (t : State) (ht : t.bq.reserve = s.bq.reserve) (cause : Nat) :
        t.refuseSequence b cause h.tag = State.refuse { t with bq.reserve := again } cause h.tag := by
      rw [State.refuseSequence, t.setReserve_split .opened (ht.trans hb) hn]
    have refuses (cause : Nat) (hgood : good'.judgeSequence h.tag = .refused cause)
        (hbad : bad.judgeSequence h.tag = .refused cause) :
        exec (.dataOut body) s = refused (byteOf cause) { good' with bq.reserve := again } ∧
          (got = body → exec .messageBadCheck s = refused (byteOf cause) { bad with bq.reserve := again }) := by
      refine ⟨?_, fun hwhole => ?_⟩
      · rw [good, (State.takeDataOut_refused _ b body hgood).1, reopened good' rfl]
        rfl
      · rw [failed hwhole, (State.takeDataOut_refused _ b body hbad).2, reopened bad rfl]
        rfl
    refine ⟨fun hd => refuses 1 (State.judgeSequence_far _ hd) (State.judgeSequence_far _ hd), fun hd ho => refuses 2 ?_ ?_⟩
    · exact State.judgeSequence_beyond _ hd ((counted good' rfl).symm ▸ ho)
    · exact State.judgeSequence_beyond _ hd ((counted bad rfl).symm ▸ ho)

end Sys2Proof.Machine
end

section
/-! The two ways to the role DISABLED as whole next states: the card link DOWN (R72, R105, R114, R152, R174), and a duplicate station
(R106, R145, R187). -/

namespace Sys2Proof.Machine

-- One theorem after another: each waiting elaboration holds a thread with memory of its own.
set_option Elab.async false

variable (s : State)

/-! ## Shared forms -/

/-- Segment designated taken anew, in one form: a change makes a STATUS pending (R102, R118). -/
theorem State.refreshDesignated_eq :
    s.refreshDesignated =
      { s with
        eu.segmentDesignated := s.reportedDesignated
        cl.statusPending :=
          if s.eu.segmentDesignated = s.reportedDesignated then s.cl.statusPending
          else some (s.cl.statusPending.getD false) } := by
  unfold State.refreshDesignated
  split
  case isTrue h => rw [← h]
  case isFalse => rfl

/-- Without a deficit every buffer discarded goes on the stack (R67). -/
theorem State.discardAll_stack (h : s.deficit = 0) (c : Counter) (bs : List BufNo) :
    s.discardAll c bs = { s with ec := s.ec.countN c bs.length, bq.free := bs.reverse ++ s.bq.free } := by
  rw [State.discardAll_eq, h]
  simp

/-- With the link DOWN there is no deficit (R66). -/
theorem State.deficit_down (h : s.cl.link = .down) : s.deficit = 0 := s.deficit_ineligible (by simp [h])

/-- With the role DISABLED there is no deficit (R66). -/
theorem State.deficit_disabled (h : s.eu.role = .disabled) : s.deficit = 0 := s.deficit_ineligible (by simp [h])

/-- A departure without a deficit puts every waiting buffer on the stack (R77). -/
theorem State.departure_stack (h : s.deficit = 0) :
    s.departure =
      { s with
        ec := s.ec.countN .roleDiscard s.waitingFrames.length
        bq := { s.bq with
          free := s.waitingFrames.reverse ++ s.bq.free, urgentQ := [], normalQ := [], deliveryQ := []
          txSlot := s.bq.txSlot.departed } } := by
  rw [s.departure_eq, h]
  simp [Pool.released, Pool.emptied]

/-! ## A duplicate station -/

/-- Entry to SILENT from a role other than DESIGNATED and DISABLED (R106, R118). -/
theorem State.enterSilent_withoutFrames {left : Role} (h : s.eu.role = left) (hleft : left = .listening ∨ left = .standby) :
    s.enterSilent =
      State.refreshDesignated
        { s with
          cf.opState := .silent, cl.statusPending := some (s.cl.statusPending.getD false), eu.role := .disabled
          eu.listenTimer := .stopped, eu.announceHolder := none, eu.takeoverHolder := none
          ec := s.ec.notify .roleChange (word16 left.code 0) } := by
  have quiet : (s.setOpState .silent).roleSilent =
      State.announceRole { s.setOpState .silent with eu.role := .disabled } left := by
    rcases hleft with rfl | rfl <;> simp [State.roleSilent, State.setOpState, h]
  rw [State.enterSilent, quiet]
  simp only [State.announceRole, State.refreshDesignated_eq]
  rfl

/-- Entry to SILENT in DISABLED (R106). -/
theorem State.enterSilent_disabled (h : s.eu.role = .disabled) :
    s.enterSilent =
      { s with
        cf.opState := .silent, cl.statusPending := some (s.cl.statusPending.getD false), eu.role := .disabled
        eu.listenTimer := .stopped, eu.announceHolder := none, eu.takeoverHolder := none } := by
  have quiet : (s.setOpState .silent).roleSilent = s.setOpState .silent := by
    simp [State.roleSilent, State.setOpState, h]
  rw [State.enterSilent, quiet, ← h]
  rfl

/-- Entry to SILENT from DESIGNATED: the departure with every buffer on the stack (R77, R106, R114). -/
theorem State.enterSilent_designated (h : s.eu.role = .designated) :
    s.enterSilent =
      State.refreshDesignated
        { s with
          cf.opState := .silent, cl.statusPending := some (s.cl.statusPending.getD false), eu.role := .disabled
          eu.listenTimer := .stopped, eu.announceHolder := none, eu.takeoverHolder := none
          ec := (s.ec.countN .roleDiscard s.waitingFrames.length).notify .roleChange (word16 3 0)
          tw := s.tw.requestFlush [.here]
          bp.inFlight := s.bp.inFlight.map dropTakeover
          bq := { s.bq with
            free := s.waitingFrames.reverse ++ s.bq.free, urgentQ := [], normalQ := [], deliveryQ := []
            txSlot := s.bq.txSlot.departed } } := by
  have quiet : (s.setOpState .silent).roleSilent =
      ((((s.setOpState .silent).quitDesignated .disabled).departure).requestFlush [.here]).announceRole .designated := by
    simp [State.roleSilent, State.setOpState, h]
  rw [State.enterSilent, quiet, State.departure_stack _ (State.deficit_disabled _ rfl)]
  simp only [State.announceRole, State.refreshDesignated_eq]
  rfl

/-! ## The card link DOWN -/

/-- The transmit part of a departure without a deficit (R77). -/
theorem State.departTransmit_stack (h : s.deficit = 0) :
    s.departTransmit =
      { s with
        ec := s.ec.countN .roleDiscard s.waitingToSend.length
        bq := { s.bq with
          free := s.waitingToSend.reverse ++ s.bq.free, urgentQ := [], normalQ := [], txSlot := s.bq.txSlot.departed } } := by
  have transmit : s.departTransmit =
      { s.discardAll .roleDiscard s.waitingToSend with
        bq.urgentQ := [], bq.normalQ := [], bq.txSlot := s.bq.txSlot.departed } := by
    rw [s.departTransmit_eq]; rfl
  rw [transmit, s.discardAll_stack h]

/-- The delivery queue emptied without a deficit (R72). -/
theorem State.emptyDelivery_stack (h : s.deficit = 0) (c : Counter) :
    s.emptyDelivery c =
      { s with
        ec := s.ec.countN c (s.bq.deliveryQ.map RxRecord.buf).length
        bq := { s.bq with free := (s.bq.deliveryQ.map RxRecord.buf).reverse ++ s.bq.free, deliveryQ := [] } } :=
  State.discardAll_stack { s with bq.deliveryQ := [] } h c (s.bq.deliveryQ.map RxRecord.buf)

/-- What the DOWN does whatever the role: the card link's own part, the reserve and the delivery queue on the stack, every hold
cancelled, the requests dropped (R71, R72, R152, R174). -/
def State.cutOff (s : State) : State :=
  { s with
    cl := { s.cl.goDown with responses := [] }
    fe := { s.fe with card := s.fe.card.map fun d => { d with hold := none } }
    bq := { s.bq with
      free := (s.bq.deliveryQ.map RxRecord.buf).reverse ++ ((s.bq.reserve.map ReserveBuf.num).reverse ++ s.bq.free)
      reserve := [], deliveryQ := [] }
    ec := s.ec.countN .deliveryDrop (s.bq.deliveryQ.map RxRecord.buf).length
    me := s.me.linkDown s.cf.opState (s.cl.responses.any (·.fromEngine)) }

/-- The part after the five steps of the DOWN (R152). -/
def State.fallen (s : State) : State := ((State.poolDown { s with cl := s.cl.goDown }).roleDown).engineDown

/-- The DOWN, and the warm restart where a RESTART's response was still to end (R152, R173). -/
theorem State.linkDown_eq (straps : Station) :
    s.linkDown straps = if s.me.stage = .waitSend true then s.fallen.warmRestart straps else s.fallen := rfl

/-- The pool at the DOWN in a role other than DESIGNATED (R72). -/
theorem State.poolDown_other (hrole : s.eu.role ≠ .designated) :
    s.poolDown = s.releaseAll.emptyDelivery .deliveryDrop := if_neg hrole

/-- The pool at the DOWN in DESIGNATED (R72). -/
theorem State.poolDown_designated (hrole : s.eu.role = .designated) :
    s.poolDown = s.releaseAll.departTransmit.emptyDelivery .deliveryDrop := if_pos hrole

/-- In DISABLED the DOWN changes no role (R105). -/
theorem State.roleDown_disabled (h : s.eu.role = .disabled) : s.roleDown = s := by simp only [State.roleDown, h]

/-- From LISTENING and STANDBY the role goes to DISABLED with the listen timer stopped (R105). -/
theorem State.roleDown_withoutFrames {left : Role} (h : s.eu.role = left) (hleft : left = .listening ∨ left = .standby) :
    s.roleDown =
      (State.loadAnnounce { s with eu.role := .disabled, eu.listenTimer := .stopped }).announceRole left := by
  rcases hleft with rfl | rfl <;> simp only [State.roleDown, h]

/-- From DESIGNATED the role goes to DISABLED by leaving it (R114). -/
theorem State.roleDown_designated (h : s.eu.role = .designated) : s.roleDown = s.withdraw := by simp only [State.roleDown, h]

/-- The own ANNOUNCE in DISABLED (R95). -/
def State.disabledAnnounce (s : State) : Announce :=
  ⟨s.conf.segment, .disabled, s.conf.preference, s.conf.zones, s.conf.interval⟩

/-- The DOWN in DISABLED (R152). -/
theorem State.fallen_disabled (h : s.eu.role = .disabled) : s.fallen = s.cutOff := by
  rw [State.fallen, State.poolDown_other _ (by simp [h]), State.emptyDelivery_stack _ (State.deficit_down _ rfl),
    State.roleDown_disabled]
  · rfl
  · exact h

/-- The DOWN in LISTENING and STANDBY (R105, R152). -/
theorem State.fallen_withoutFrames {left : Role} (h : s.eu.role = left) (hleft : left = .listening ∨ left = .standby) :
    s.fallen =
      State.refreshDesignated
        { s.cutOff with
          eu.role := .disabled, eu.listenTimer := .stopped, eu.announceHolder := some s.disabledAnnounce
          ec := s.cutOff.ec.notify .roleChange (word16 left.code 0)
          cl.statusPending := some false } := by
  have other : s.eu.role ≠ .designated := by rcases hleft with rfl | rfl <;> simp [h]
  rw [State.fallen, State.poolDown_other _ ?role, State.emptyDelivery_stack _ (State.deficit_down _ rfl),
    State.roleDown_withoutFrames _ ?left hleft]
  case role => exact other
  case left => exact h
  simp only [State.announceRole, State.refreshDesignated_eq]
  rfl

/-- The DOWN in DESIGNATED (R72, R114, R152). -/
theorem State.fallen_designated (h : s.eu.role = .designated) :
    s.fallen =
      State.refreshDesignated
        { s.cutOff with
          eu.role := .disabled, eu.takeoverHolder := none, eu.announceHolder := some s.disabledAnnounce
          bp.inFlight := s.bp.inFlight.map dropTakeover
          bq := { s.cutOff.bq with
            free := (s.bq.deliveryQ.map RxRecord.buf).reverse ++
              (s.waitingToSend.reverse ++ ((s.bq.reserve.map ReserveBuf.num).reverse ++ s.bq.free))
            urgentQ := [], normalQ := [], txSlot := s.bq.txSlot.departed }
          ec := ((s.ec.countN .roleDiscard s.waitingToSend.length).countN .deliveryDrop
            (s.bq.deliveryQ.map RxRecord.buf).length).notify .roleChange (word16 3 0)
          tw := s.tw.requestFlush [.here]
          cl.statusPending := some false } := by
  rw [State.fallen, State.poolDown_designated _ ?role, State.departTransmit_stack _ (State.deficit_down _ rfl),
    State.emptyDelivery_stack _ (State.deficit_down _ rfl), State.roleDown_designated _ ?left, State.withdraw]
  case role => exact h
  case left => exact h
  simp only [State.announceRole, State.refreshDesignated_eq]
  rfl

/-- With the link DOWN the arbiter chooses nothing (R159). -/
theorem State.arbitrate_down (h : s.cl.link = .down) : s.arbitrate = s := if_neg (by simp [h])

/-- The role goes to DISABLED without a change of the link. -/
theorem State.roleDown_link : s.roleDown.cl.link = s.cl.link := by
  unfold State.roleDown
  split
  · rfl
  · simp
  · simp
  · simp [State.withdraw, State.quitDesignated, State.emptyTakeover]

/-- After the DOWN the link is DOWN (R152). -/
theorem State.fallen_link : s.fallen.cl.link = .down := by
  have pool : (State.poolDown { s with cl := s.cl.goDown }).cl.link = .down := by
    unfold State.poolDown
    split
    · rw [State.departTransmit_stack _ (State.deficit_down _ rfl), State.emptyDelivery_stack _ (State.deficit_down _ rfl)]
      rfl
    · rw [State.emptyDelivery_stack _ (State.deficit_down _ rfl)]
      rfl
  exact (State.roleDown_link _).trans pool

/-- A warm restart keeps the link (R153). -/
theorem State.warmRestart_link (straps : Station) : (s.warmRestart straps).cl.link = s.cl.link := by
  show s.cl.warmRestart.link = s.cl.link
  unfold CardLink.warmRestart
  dsimp only
  split <;> rfl

/-- LINK_HOLD_EXPIRY: the DOWN, with nothing for the arbiter to choose (R152, R159, R173). -/
theorem exec_linkHoldExpiry {s : State} (straps : Station) (hr : s.resetAsserted = false) (hup : s.cl.link = .up) :
    exec (.linkHoldExpiry straps) s =
      .next (if s.me.stage = .waitSend true then s.fallen.warmRestart straps else s.fallen) := by
  have falls : exec (.linkHoldExpiry straps) s = .next (s.linkDown straps).arbitrate := takeEvent_occurs hr hup
  rw [falls, State.arbitrate_down, State.linkDown_eq]
  rw [State.linkDown_eq]
  split
  · rw [State.warmRestart_link, State.fallen_link]
  · exact s.fallen_link

/-- Settles O38: the five steps by the role left, the rest as it stands. -/
theorem linkGoesDown : Obligations.LinkGoesDown := by
  intro s straps c hr hup hc reserve waiting delivery down announced t
  have cut : s.cutOff = down := rfl
  have announces (h : s.eu.role ≠ .disabled) : s.disabledAnnounce = announced := by
    rw [State.disabledAnnounce, s.conf_eq c (hc.resolve_right h)]
  have falls : s.fallen = t := by
    cases hrole : s.eu.role with
    | disabled => rw [s.fallen_disabled hrole]; simp only [t, hrole]; exact cut
    | listening =>
      rw [s.fallen_withoutFrames hrole (.inl rfl), announces (by simp [hrole]), cut]
      simp only [t, hrole]
      rfl
    | standby =>
      rw [s.fallen_withoutFrames hrole (.inr rfl), announces (by simp [hrole]), cut]
      simp only [t, hrole]
      rfl
    | designated =>
      rw [s.fallen_designated hrole, announces (by simp [hrole]), cut]
      simp only [t, hrole]
      rfl
  rw [exec_linkHoldExpiry straps hr hup, falls]
  exact ⟨fun h => by rw [if_neg h], fun h => by rw [if_pos h]⟩

/-- The part in RUNNING, once sync is gained and before its role changes (R144, R187). -/
def State.synced (s : State) : State :=
  { s with
    cf.opState := .running, bp.sync := .synced, pt.announceTimer := .running s.conf.interval
    tw.sweepTimer := if s.conf.sweepPeriod = 0 then .stopped else .running s.conf.sweepPeriod
    cl.statusPending := some (s.cl.statusPending.getD false) }

/-- Sync gained with the link DOWN (R144, R187). -/
theorem State.enterRunning_down (h : s.cl.link = .down) : s.enterRunning = s.synced :=
  if_neg (show ¬s.cl.link = .up by simp [h])

/-- Sync gained with the link UP (R104, R144, R187). -/
theorem State.enterRunning_up (h : s.cl.link = .up) : s.enterRunning = s.synced.enterListening := if_pos h

/-- Sync gained in SYNCING alone (R144). -/
theorem State.gainSync_syncing (h : s.cf.opState = .syncing) : s.gainSync = s.enterRunning := if_pos h

/-- In any other state nothing is gained (R144). -/
theorem State.gainSync_other (h : s.cf.opState ≠ .syncing) : s.gainSync = s := if_neg h

/-- HEADER_RECEIVED with a good header, in a state in which the receiver judges (R124, R137, R143). -/
theorem exec_headerReceived_good {s : State} {h : Vector Byte 9} (hr : s.resetAsserted = false)
    (hlistens : s.cf.opState.listens = true) (hoff : s.bp.transmitter = .off) (hempty : s.bp.assembly = .empty)
    (hcarrier : s.bp.medium = .carrier) (hcheck : crc8 (h.toList.take 8) = h[8]) :
    exec (.headerReceived h) s = .next (s.goodHeader h).arbitrate := by
  have watches : s.watches = true := by simp [State.watches, hlistens, hoff, hempty, hcarrier]
  have good : s.takeHeader h = s.goodHeader h := if_pos (by simpa [headerCheckPasses] using hcheck)
  rw [← good]
  exact takeEvent_occurs hr watches

/-- The own number heard in RUNNING (R145). -/
theorem State.testDuplicate_own (h : s.cf.opState = .running) :
    s.testDuplicate s.cf.station = (s.raiseAlarm .dupStation (word16 0 (byteOf s.cf.station))).enterSilent := if_pos ⟨h, rfl⟩

/-- Settles O19: after the sync, where one is sought, the entry to SILENT by the role left. -/
theorem duplicateGoesSilent : Obligations.DuplicateGoesSilent := by
  intro s h c hr hoff hempty hcarrier hc hcheck hown heard silenced run
  have silences (t : State) (hrun : t.cf.opState = .running) (hstation : t.cf.station = s.cf.station) :
      t.testDuplicate (frameSource h) = silenced t := by
    let alarmed : State := t.raiseAlarm .dupStation (word16 0 (byteOf s.cf.station))
    have detected : t.testDuplicate (frameSource h) = alarmed.enterSilent := by
      rw [hown, ← hstation, t.testDuplicate_own hrun, hstation]
    rw [detected]
    cases hrole : t.eu.role with
    | disabled => rw [alarmed.enterSilent_disabled hrole]; simp only [silenced, hrole]; rfl
    | listening => rw [alarmed.enterSilent_withoutFrames hrole (.inl rfl)]; simp only [silenced, hrole]; rfl
    | standby => rw [alarmed.enterSilent_withoutFrames hrole (.inr rfl)]; simp only [silenced, hrole]; rfl
    | designated =>
      have waits (x : TxSlot) : x.waits = match x with | .waiting r => [r.buf] | _ => [] := by cases x <;> rfl
      rw [alarmed.enterSilent_designated hrole, State.waitingFrames, State.waitingToSend, waits]
      simp only [silenced, hrole]
      rfl
  have arrives (hlistens : s.cf.opState.listens = true) :
      exec (.headerReceived h) s = .next (heard.gainSync.testDuplicate (frameSource h)).arbitrate := by
    rw [exec_headerReceived_good hr hlistens hoff hempty hcarrier hcheck, State.goodHeader, hown]
  have isRun : heard.synced = run := by simp only [State.synced, heard.conf_eq c hc]; rfl
  refine ⟨fun hop => ?running, fun hop hdown => ?down, fun hop hup => ?up⟩
  case running =>
    have stays : heard.gainSync = heard := heard.gainSync_other (by rw [show heard.cf.opState = s.cf.opState from rfl, hop]; simp)
    rw [arrives (by rw [hop]; rfl), stays, silences heard hop rfl]
  case down =>
    rw [arrives (by rw [hop]; rfl), heard.gainSync_syncing hop, heard.enterRunning_down hdown, isRun, silences run rfl rfl]
  case up =>
    rw [arrives (by rw [hop]; rfl), heard.gainSync_syncing hop, heard.enterRunning_up hup, isRun,
      silences run.enterListening (by simp [run]) (by simp [run, heard])]

end Sys2Proof.Machine
end

section
/-! The event unit's law on its own block, and what keeps it (R177 to R180). -/

namespace Sys2Proof.Machine

-- One theorem after another: each waiting elaboration holds a thread with memory of its own.
set_option Elab.async false

/-- The event unit's law on its own block (R177, R179). -/
def EventUnit.sound (e : EventUnit) : Prop :=
  e.queue.length ≤ eventDepth ∧ e.lost ≤ 255 ∧
    ∀ k : EventKind, k.isAlarm = true → (e.queue.countP fun r => r.kind == k) ≤ (e.alarms.has k).toNat

/-- The law of the part is that of its event unit. -/
theorem State.eventsKept_iff (s : State) : s.eventsKept ↔ s.ec.sound := Iff.rfl

/-- The lost count saturates (R178). -/
theorem lostAdd_le (lost n : Nat) : lostAdd lost n ≤ 255 := Nat.min_le_left _ _

/-- Lost counts added on stay in bounds (R180). -/
theorem foldl_lostAdd_le (ns : List Nat) (lost : Nat) (h : lost ≤ 255) : ns.foldl lostAdd lost ≤ 255 := by
  induction ns generalizing lost with
  | nil => exact h
  | cons n ns ih => exact ih _ (lostAdd_le lost n)

/-- An alarm set or cleared is so, and the others stay (R177). -/
theorem AlarmSet.has_put (a : AlarmSet) (k j : EventKind) (on : Bool) (hk : k.isAlarm = true) :
    (a.put k on).has j = if k = j then on else a.has j := by
  cases k with
  | dupStation | dualActive | configFault | linkProtocol => cases j <;> rfl
  | peerUp | peerDown | peerRestart | roleChange | localDisplaced | excessCollisions | intervalMismatch => cases hk

/-- The oldest notification is no alarm, and the rest of the queue is the queue without it (R179). -/
theorem oldestNotification_spec {q rest : List EventRecord} {r : EventRecord} (h : oldestNotification q = some (r, rest)) :
    r.kind.isAlarm = false ∧ rest.Sublist q ∧ rest.length + 1 = q.length := by
  induction q generalizing rest with
  | nil => cases h
  | cons x xs ih =>
    simp only [oldestNotification] at h
    split at h
    case isTrue =>
      obtain ⟨⟨y, ys⟩, hy, heq⟩ := Option.map_eq_some_iff.1 h
      obtain ⟨rfl, rfl⟩ := Prod.mk.inj heq
      obtain ⟨hkind, hsub, hlen⟩ := ih hy
      exact ⟨hkind, hsub.cons_cons x, by simp [hlen]⟩
    case isFalse hx =>
      obtain ⟨rfl, rfl⟩ := Prod.mk.inj (Option.some.inj h)
      exact ⟨by simpa using hx, List.sublist_cons_self _ _, rfl⟩

section Sound

variable {e : EventUnit} {k : EventKind} {a : BitVec 16}

/-- A record put at the tail of a queue with room, where it is the first of a set alarm or a notification (R177, R178). -/
theorem EventUnit.append_sound (hroom : e.queue.length < eventDepth)
    (hcounts : ∀ j : EventKind, j.isAlarm = true →
      (e.queue.countP fun r => r.kind == j) + (if k = j then 1 else 0) ≤ (e.alarms.has j).toNat) : (e.append k a).sound := by
  refine ⟨?_, Nat.zero_le _, fun j hj => ?_⟩
  · simpa [EventUnit.append] using hroom
  · have tail : ((e.append k a).queue.countP fun r => r.kind == j) =
        (e.queue.countP fun r => r.kind == j) + if k = j then 1 else 0 := by
      simp [EventUnit.append, List.countP_append]
    rw [tail]
    exact hcounts j hj

/-- A notification (R178). -/
theorem EventUnit.notify_sound (hk : k.isAlarm = false) (h : e.sound) : (e.notify k a).sound := by
  obtain ⟨hlen, hlost, hcounts⟩ := h
  unfold EventUnit.notify
  split
  case isTrue hroom =>
    refine EventUnit.append_sound hroom fun j hj => ?_
    have other : k ≠ j := by rintro rfl; simp [hk] at hj
    simpa [other] using hcounts j hj
  case isFalse => exact ⟨hlen, lostAdd_le _ _, hcounts⟩

/-- An alarm (R179). -/
theorem EventUnit.raiseAlarm_sound (hk : k.isAlarm = true) (h : e.sound) : (e.raiseAlarm k a).sound := by
  obtain ⟨hlen, hlost, hcounts⟩ := h
  unfold EventUnit.raiseAlarm
  split
  case isTrue => exact ⟨hlen, hlost, hcounts⟩
  case isFalse hnew =>
    have counts (j : EventKind) (hj : j.isAlarm = true) :
        (e.queue.countP fun r => r.kind == j) + (if k = j then 1 else 0) ≤ ((e.alarms.put k true).has j).toNat := by
      have hle := hcounts j hj
      rw [AlarmSet.has_put _ _ _ _ hk]
      by_cases hjk : k = j
      · subst hjk
        simpa [hnew] using hle
      · simpa [hjk] using hle
    dsimp only
    split
    case isTrue hroom => exact EventUnit.append_sound hroom counts
    case isFalse hfull =>
      split
      case h_1 r q hq =>
        obtain ⟨-, hsub, hone⟩ := oldestNotification_spec hq
        refine EventUnit.append_sound (show q.length < eventDepth by omega) fun j hj => ?_
        have fewer : (q.countP fun x => x.kind == j) ≤ e.queue.countP fun x => x.kind == j := hsub.countP_le
        exact (Nat.add_le_add_right fewer _).trans (counts j hj)
      case h_2 => exact ⟨hlen, hlost, fun j hj => (Nat.le_add_right _ _).trans (counts j hj)⟩

/-- An acknowledgement (R172, R180). -/
theorem EventUnit.acknowledge_sound (hk : k.isAlarm = true) (h : e.sound) : (e.acknowledge k).sound := by
  obtain ⟨hlen, hlost, hcounts⟩ := h
  unfold EventUnit.acknowledge
  split
  case isFalse => exact ⟨hlen, hlost, hcounts⟩
  case isTrue =>
    refine ⟨(List.length_filter_le _ _).trans hlen, foldl_lostAdd_le _ _ hlost, fun j hj => ?_⟩
    rw [List.countP_filter, AlarmSet.has_put _ _ _ _ hk]
    by_cases hjk : k = j
    · subst hjk
      simp
    · refine (List.countP_mono_left fun r _ hr => ?_).trans ((hcounts j hj).trans (by simp [hjk]))
      simp at hr ⊢
      exact hr.1

/-- A record that leaves the queue to be sent (R159). -/
theorem EventUnit.sent_sound {r : EventRecord} {rs : List EventRecord} (hq : e.queue = r :: rs) (h : e.sound) :
    EventUnit.sound { e with queue := rs } := by
  obtain ⟨hlen, hlost, hcounts⟩ := h
  rw [hq] at hlen hcounts
  refine ⟨(Nat.le_succ _).trans hlen, hlost, fun j hj => ?_⟩
  exact ((List.sublist_cons_self r rs).countP_le).trans (hcounts j hj)

end Sound

end Sys2Proof.Machine
end

section
/-! The laws of buffers, bounds, role and bus as one relation between two states, with a ledger of what lies outside the pool's own
record; and the kinds of change that keep them. -/

namespace Sys2Proof.Machine

-- One theorem after another: each waiting elaboration holds a thread with memory of its own.
set_option Elab.async false

/-! ## The relation -/

/-- What the reserve's record is held against: the buffers on their way from one holder to another, the one being written, and those
that the card decisions hold (R63, R66). -/
structure Ledger where
  moving : List BufNo
  writing : List BufNo
  held : List BufNo

/-- The ledger between two steps: nothing is moving, the receiver writes, the decisions hold (R66, R71). -/
def State.ledger (s : State) : Ledger := ⟨[], s.cl.receiver.buffer, s.holds⟩

/-- Holders and moving buffers together are each of the 64 buffers once (R63). -/
def State.wholeWith (s : State) (moving : List BufNo) : Prop := ∀ b : BufNo, (moving ++ s.holders).count b = 1

/-- The reserve's states are those of the ledger (R66). -/
def State.reserveOf (s : State) (l : Ledger) : Prop :=
  s.reserveIn .receiving = l.writing ∧ (s.reserveIn .held).Perm l.held

/-- Between two steps the laws of the pool are those with the state's own ledger. -/
theorem State.pool_iff (s : State) :
    (s.poolWhole ↔ s.wholeWith s.ledger.moving) ∧ (s.reserveMatches ↔ s.reserveOf s.ledger) := ⟨Iff.rfl, Iff.rfl⟩

/-- Every law of buffers, bounds, role and bus that holds of `s` with a ledger holds of `t` with another. Each law that a change does
not touch is kept by default. -/
structure State.Keeps (s : State) (l : Ledger) (t : State) (l' : Ledger) : Prop where
  whole : s.wholeWith l.moving → t.wholeWith l'.moving := by exact fun h => h
  matched : s.wholeWith l.moving → s.reserveOf l → t.reserveOf l' := by exact fun _ h => h
  depths : s.depthsKept → t.depthsKept := by exact fun h => h
  attempts : s.attemptsKept → t.attemptsKept := by exact fun h => h
  reserve : s.reserveKept → t.reserveKept := by exact fun h => h
  events : s.eventsKept → t.eventsKept := by exact fun h => h
  role : s.roleKept → t.roleKept := by exact fun h => h
  nothing : s.roleKept → s.holdsNothing → t.holdsNothing := by exact fun _ h => h
  election : s.roleKept → s.electionKept → t.electionKept := by exact fun _ h => h
  transmitter : s.transmitterKept → t.transmitterKept := by exact fun h => h
  ladder : s.transmitterKept → s.ladderKept → t.ladderKept := by exact fun _ h => h

/-- From `s` to `t` the receiver and the card decisions stay, and every law is kept with whatever ledger. -/
structure State.Spares (s t : State) : Prop where
  receiver : t.cl.receiver = s.cl.receiver := by rfl
  card : t.fe.card = s.fe.card := by rfl
  laws : ∀ l, s.Keeps l t l

/-- The state with all that these laws do not read as at reset. -/
def State.bare (s : State) : State :=
  { State.reset with
    cf := { s.cf with image := [] }
    fe.card := s.fe.card
    bq := { s.bq with contents := Pool.reset.contents }
    eu.role := s.eu.role, eu.listenTimer := s.eu.listenTimer, eu.takeoverHolder := s.eu.takeoverHolder
    bp := { s.bp with pointer := 31, assembly := .empty }
    cl.link := s.cl.link, cl.receiver := s.cl.receiver
    ec := { s.ec with counters := EventUnit.reset.counters } }

section Relation

variable {s t u : State} {l l' l'' : Ledger}

/-- What does not change keeps the laws. -/
theorem State.Keeps.refl (s : State) (l : Ledger) : s.Keeps l s l := {}

/-- One change after another keeps the laws. -/
theorem State.Keeps.trans (h : s.Keeps l t l') (h' : t.Keeps l' u l'') : s.Keeps l u l'' where
  whole hs := h'.whole (h.whole hs)
  matched hw hs := h'.matched (h.whole hw) (h.matched hw hs)
  depths hs := h'.depths (h.depths hs)
  attempts hs := h'.attempts (h.attempts hs)
  reserve hs := h'.reserve (h.reserve hs)
  events hs := h'.events (h.events hs)
  role hs := h'.role (h.role hs)
  nothing hr hs := h'.nothing (h.role hr) (h.nothing hr hs)
  election hr hs := h'.election (h.role hr) (h.election hr hs)
  transmitter hs := h'.transmitter (h.transmitter hs)
  ladder ht hs := h'.ladder (h.transmitter ht) (h.ladder ht hs)

/-- The laws read the bare state alone. -/
theorem State.keeps_bare (s : State) (l : Ledger) : s.Keeps l s.bare l ∧ s.bare.Keeps l s l := ⟨{}, {}⟩

/-- What leaves the bare state alone keeps the laws. -/
theorem State.Spares.of_bare (h : t.bare = s.bare) : s.Spares t where
  receiver := show t.bare.cl.receiver = s.bare.cl.receiver by rw [h]
  card := show t.bare.fe.card = s.bare.fe.card by rw [h]
  laws l := (s.keeps_bare l).1.trans (h ▸ (t.keeps_bare l).2)

/-- What does not change spares the laws. -/
theorem State.Spares.refl (s : State) : s.Spares s := .of_bare rfl

/-- One change after another spares the laws. -/
theorem State.Spares.trans (h : s.Spares t) (h' : t.Spares u) : s.Spares u where
  receiver := h'.receiver.trans h.receiver
  card := h'.card.trans h.card
  laws l := (h.laws l).trans (h'.laws l)

/-- A change that leaves the bare state alone, after one that spares the laws. -/
theorem State.Spares.same (h : s.Spares t) (hu : u.bare = t.bare := by rfl) : s.Spares u := h.trans (.of_bare hu)

/-- A change that spares the laws leaves the ledger. -/
theorem State.Spares.ledger (h : s.Spares t) : t.ledger = s.ledger := by
  simp only [State.ledger, State.holds, h.receiver, h.card]

/-- A change that spares the laws keeps them from step to step. -/
theorem State.Spares.keeps (h : s.Spares t) : s.Keeps s.ledger t t.ledger := h.ledger ▸ h.laws s.ledger

/-- A change of the event unit that keeps its law. -/
theorem State.Spares.of_events {e : EventUnit} (h : s.ec.sound → e.sound) : s.Spares { s with ec := e } where
  laws _ := { events := fun hs => (State.eventsKept_iff _).2 (h ((State.eventsKept_iff s).1 hs)) }

end Relation

end Sys2Proof.Machine
end

section
/-! What keeps the laws among the operations on the buffer pool: a buffer on its way to the push rule, a reserve buffer in another
state or out of the reserve, a record in a queue (R63 to R73). -/

namespace Sys2Proof.Machine

-- One theorem after another: each waiting elaboration holds a thread with memory of its own.
set_option Elab.async false

/-! ## The reserve by its states -/

/-- The buffers of a reserve in a state. -/
def bufsIn (st : ReserveState) (l : List ReserveBuf) : List BufNo := (l.filter fun r => r.state == st).map ReserveBuf.num

/-- The buffers of the part's reserve in a state. -/
theorem State.reserveIn_eq (s : State) (st : ReserveState) : s.reserveIn st = bufsIn st s.bq.reserve := rfl

@[simp] theorem bufsIn_nil (st : ReserveState) : bufsIn st [] = [] := rfl

@[simp] theorem bufsIn_append (st : ReserveState) (l l' : List ReserveBuf) : bufsIn st (l ++ l') = bufsIn st l ++ bufsIn st l' := by
  simp [bufsIn]

@[simp] theorem bufsIn_cons (st : ReserveState) (r : ReserveBuf) (l : List ReserveBuf) :
    bufsIn st (r :: l) = (if r.state = st then [r.num] else []) ++ bufsIn st l := by
  by_cases h : r.state = st <;> simp [bufsIn, h]

/-- Buffers newly OPEN are in no other state. -/
@[simp] theorem bufsIn_opened (st : ReserveState) (bs : List BufNo) (h : st ≠ .opened) :
    bufsIn st (bs.map fun b => ⟨b, .opened⟩) = [] := by
  simp [bufsIn, List.filter_map, Function.comp_def, h.symm]

section Pool

variable {s : State} {l : Ledger} {b : BufNo}

/-- A perm of holders and moving buffers keeps the pool whole. -/
theorem State.wholeWith_perm {t : State} {moving moving' : List BufNo} (h : (moving' ++ t.holders).Perm (moving ++ s.holders))
    (hs : s.wholeWith moving) : t.wholeWith moving' := fun x => (h.count_eq x).trans (hs x)

/-- In a whole pool no buffer is twice in the reserve (R63). -/
theorem State.reserve_nodup {moving : List BufNo} (h : s.wholeWith moving) : (s.bq.reserve.map ReserveBuf.num).Nodup := by
  refine List.nodup_iff_count_le_one.2 fun x => ?_
  have once := h x
  simp only [State.holders, List.count_append] at once
  omega

/-- In a whole pool the buffer at a place of the reserve is at no other. -/
theorem State.reserve_elsewhere {moving : List BufNo} {st : ReserveState} {before after : List ReserveBuf}
    (h : s.wholeWith moving) (hb : s.bq.reserve = before ++ ⟨b, st⟩ :: after) : ∀ r ∈ before ++ after, r.num ≠ b := by
  have nodup := State.reserve_nodup h
  rw [hb, List.map_append, List.map_cons, List.nodup_middle, List.nodup_cons, ← List.map_append] at nodup
  intro r hr heq
  exact nodup.1 (List.mem_map.2 ⟨r, hr, heq⟩)

/-- A buffer in the reserve stands at a place, with no buffer of its number before it. -/
theorem State.inReserve_place (h : s.inReserve b = true) :
    ∃ st before after, s.bq.reserve = before ++ ⟨b, st⟩ :: after ∧ ∀ r ∈ before, r.num ≠ b := by
  obtain ⟨r, hr, hb⟩ := List.any_eq_true.1 h
  obtain ⟨x, before, after, hbefore, hx, hsplit, -⟩ := List.exists_of_eraseP (p := fun r => r.num == b) hr hb
  refine ⟨x.state, before, after, ?_, fun y hy => by simpa using hbefore y hy⟩
  rw [hsplit, ← eq_of_beq hx]

/-- Where a number stands in a state of the reserve and at one place alone, it stands there in that state. -/
theorem bufsIn_place {st st' : ReserveState} {before after : List ReserveBuf} (hn : ∀ r ∈ before ++ after, r.num ≠ b)
    (h : b ∈ bufsIn st' (before ++ ⟨b, st⟩ :: after)) : st = st' := by
  obtain ⟨r, hr, hnum⟩ := List.mem_map.1 h
  obtain ⟨hmem, hstate⟩ := List.mem_filter.1 hr
  rcases List.mem_append.1 hmem with hmem | hmem
  · exact absurd hnum (hn r (List.mem_append_left _ hmem))
  · rcases List.mem_cons.1 hmem with rfl | hmem
    · simpa using hstate
    · exact absurd hnum (hn r (List.mem_append_right _ hmem))

/-- A buffer that stands in a state of the reserve has a place there in that state. -/
theorem State.reserve_place {moving : List BufNo} {st : ReserveState} (hw : s.wholeWith moving) (h : b ∈ s.reserveIn st) :
    ∃ before after, s.bq.reserve = before ++ ⟨b, st⟩ :: after ∧ ∀ r ∈ before ++ after, r.num ≠ b := by
  obtain ⟨r, hr, rfl⟩ := List.mem_map.1 h
  obtain ⟨hmem, hstate⟩ := List.mem_filter.1 hr
  obtain ⟨before, after, hsplit⟩ := List.append_of_mem hmem
  have split : s.bq.reserve = before ++ ⟨r.num, st⟩ :: after := by
    rw [hsplit, ← show r.state = st by simpa using hstate]
  exact ⟨before, after, split, State.reserve_elsewhere hw split⟩

/-! ## Buffers that go by the push rule (R67) -/

/-- Where a credit may be out the station is credit-eligible or its buffers go on the stack (R66). -/
theorem State.noCredit_of_eligible (h : s.creditEligible = true) : s.noCredit = false := by
  obtain ⟨hup, hrun, -⟩ := s.creditEligible_iff.1 h
  simp [State.noCredit, hup, hrun]

/-- A reserve that does not grow keeps its bounds (R66). -/
theorem State.reserveKept_shrunk {t : State} (h : s.reserveKept) (hlen : t.bq.reserve.length ≤ s.bq.reserve.length)
    (hconf : t.conf = s.conf := by rfl) (hno : t.noCredit = s.noCredit := by rfl) : t.reserveKept := by
  obtain ⟨hbound, hempty⟩ := h
  refine ⟨hconf ▸ hlen.trans hbound, fun hnone => List.eq_nil_of_length_eq_zero ?_⟩
  rw [hempty (hno ▸ hnone)] at hlen
  exact Nat.le_zero.1 hlen

/-- A reserve that grows within the deficit keeps its bounds (R66). -/
theorem State.reserveKept_grown {t : State} (he : s.creditEligible = true)
    (hlen : t.bq.reserve.length ≤ s.bq.reserve.length + s.deficit) (hbound : s.bq.reserve.length ≤ s.conf.localCredits)
    (hconf : t.conf = s.conf := by rfl) (hno : t.noCredit = s.noCredit := by rfl) : t.reserveKept := by
  have deficit : s.deficit = s.conf.localCredits - s.bq.reserve.length := if_pos he
  refine ⟨by rw [hconf]; omega, fun hnone => ?_⟩
  rw [hno, State.noCredit_of_eligible he] at hnone
  cases hnone

/-- Moving buffers go by the push rule: no more of them to the reserve than there is deficit (R66, R67). -/
theorem State.Keeps.released (bs moving writing held : List BufNo) (n : Nat) (g : Byte) (hn : n ≤ s.deficit) :
    s.Keeps ⟨bs ++ moving, writing, held⟩ { s with bq := s.bq.released bs n, cl.grantTotal := g } ⟨moving, writing, held⟩ where
  whole := State.wholeWith_perm (List.perm_iff_count.2 fun x => by
    have parts : (bs.take n).count x + (bs.drop n).count x = bs.count x := by rw [← List.count_append, List.take_append_drop]
    simp [State.holders, Pool.released, List.count_append, Function.comp_def]
    omega)
  matched _ h := by
    simpa [State.reserveOf, State.reserveIn_eq, Pool.released, -List.map_take] using h
  reserve h := by
    cases he : s.creditEligible with
    | true =>
      refine State.reserveKept_grown he ?_ h.1
      simp [Pool.released]
      omega
    | false =>
      have none : n = 0 := Nat.le_zero.1 (hn.trans_eq (if_neg (by simp [he])))
      exact State.reserveKept_shrunk h (by simp [Pool.released, none])

/-- A moving buffer goes by the push rule (R67). -/
theorem State.Keeps.pushRule (b : BufNo) (moving writing held : List BufNo) :
    s.Keeps ⟨b :: moving, writing, held⟩ (s.pushRule b) ⟨moving, writing, held⟩ := by
  rcases s.pushRule_cases b with ⟨hd, hp⟩ | ⟨-, hp⟩
  · rw [hp]
    exact .released [b] moving writing held 1 _ hd
  · rw [hp]
    have stacked : s.bq.released [b] 0 = { s.bq with free := b :: s.bq.free } := by simp [Pool.released]
    have laws := State.Keeps.released [b] moving writing held 0 s.cl.grantTotal (Nat.zero_le s.deficit)
    rwa [stacked] at laws

/-! ## The reserve (R66, R69, R70) -/

/-- A buffer taken out of the reserve is moving; what stands in the other states must be what the ledger then says. -/
theorem State.Keeps.dropReserve (hin : s.inReserve b = true) {writing held : List BufNo}
    (hmatch : ∀ st before after, s.bq.reserve = before ++ ⟨b, st⟩ :: after → (∀ r ∈ before ++ after, r.num ≠ b) →
      s.reserveOf l → bufsIn .receiving (before ++ after) = writing ∧ (bufsIn .held (before ++ after)).Perm held) :
    s.Keeps l (s.dropReserve b) ⟨b :: l.moving, writing, held⟩ := by
  obtain ⟨st, before, after, hb, hn⟩ := State.inReserve_place hin
  rw [s.dropReserve_split hb hn]
  exact
    { whole := State.wholeWith_perm (List.perm_iff_count.2 fun x => by
        simp [State.holders, hb, List.count_append, List.count_cons]
        omega)
      matched := fun hw h => hmatch st before after hb (State.reserve_elsewhere hw hb) h
      reserve := fun h => State.reserveKept_shrunk h (by simp [hb]) }

/-- A reserve buffer in the state that the ledger names leaves the reserve: it is out of the ledger's list. -/
theorem State.Keeps.dropHeld (hin : s.inReserve b = true) (moving writing held : List BufNo) :
    s.Keeps ⟨moving, writing, b :: held⟩ (s.dropReserve b) ⟨b :: moving, writing, held⟩ := by
  refine .dropReserve hin fun st before after hb hn h => ?_
  obtain ⟨hwriting, hheld⟩ := h
  rw [State.reserveIn_eq, hb] at hwriting hheld
  obtain rfl : st = .held := bufsIn_place hn (hheld.symm.subset List.mem_cons_self)
  simp at hwriting hheld
  refine ⟨by simpa using hwriting, ?_⟩
  simpa using (List.perm_middle.symm.trans hheld).cons_inv

/-- The buffer being written leaves the reserve (R69, R156). -/
theorem State.Keeps.dropWriting (hin : s.inReserve b = true) (moving held : List BufNo) :
    s.Keeps ⟨moving, [b], held⟩ (s.dropReserve b) ⟨b :: moving, [], held⟩ := by
  refine .dropReserve hin fun st before after hb hn h => ?_
  obtain ⟨hwriting, hheld⟩ := h
  rw [State.reserveIn_eq, hb] at hwriting hheld
  obtain rfl : st = .receiving := bufsIn_place hn (by rw [hwriting]; exact List.mem_cons_self)
  simp [List.append_eq_singleton_iff] at hwriting
  simp at hheld
  refine ⟨by simpa using hwriting, by simpa using hheld⟩

/-- The oldest OPEN buffer stands OPEN in the reserve (R69). -/
theorem State.oldestOpen_mem (h : s.oldestOpen = some b) : b ∈ s.reserveIn .opened := by
  obtain ⟨r, hr, rfl⟩ := Option.map_eq_some_iff.1 h
  have opened := List.find?_some (p := fun r : ReserveBuf => r.state == ReserveState.opened) hr
  exact List.mem_map.2 ⟨r, List.mem_filter.2 ⟨List.mem_of_find?_eq_some hr, opened⟩, rfl⟩

/-- A buffer that stands in a state of the reserve is in the reserve. -/
theorem State.inReserve_of_mem {st : ReserveState} (h : b ∈ s.reserveIn st) : s.inReserve b = true := by
  obtain ⟨r, hr, rfl⟩ := List.mem_map.1 h
  exact List.any_eq_true.2 ⟨r, (List.mem_filter.1 hr).1, by simp⟩

/-- An OPEN buffer leaves the reserve (R70). -/
theorem State.Keeps.dropOpen (h : b ∈ s.reserveIn .opened) (l : Ledger) :
    s.Keeps l (s.dropReserve b) ⟨b :: l.moving, l.writing, l.held⟩ := by
  refine .dropReserve (State.inReserve_of_mem h) fun st before after hb hn hl => ?_
  obtain ⟨hwriting, hheld⟩ := hl
  rw [State.reserveIn_eq, hb] at h hwriting hheld
  obtain rfl : st = .opened := bufsIn_place hn h
  exact ⟨by simpa using hwriting, by simpa using hheld⟩

/-- A reserve buffer put in another state: what stands in the states must be what the ledger then says (R66, R69). -/
theorem State.Keeps.setReserve (new : ReserveState) {writing held : List BufNo}
    (hmatch : s.wholeWith l.moving → s.reserveOf l → ∃ st before after, s.bq.reserve = before ++ ⟨b, st⟩ :: after ∧
      bufsIn .receiving (before ++ ⟨b, new⟩ :: after) = writing ∧
      (bufsIn .held (before ++ ⟨b, new⟩ :: after)).Perm held) :
    s.Keeps l (s.setReserve b new) ⟨l.moving, writing, held⟩ where
  whole h := by
    have nums : (s.setReserve b new).bq.reserve.map ReserveBuf.num = s.bq.reserve.map ReserveBuf.num := by
      simp only [State.setReserve, List.map_map]
      refine List.map_congr_left fun r _ => ?_
      by_cases hr : r.num = b <;> simp [hr]
    have holders : (s.setReserve b new).holders = s.holders := by simp only [State.holders, nums]; rfl
    simpa only [State.wholeWith, holders] using h
  matched hw h := by
    obtain ⟨st, before, after, hb, hwriting, hheld⟩ := hmatch hw h
    rw [s.setReserve_split new hb (State.reserve_elsewhere hw hb)]
    exact ⟨hwriting, hheld⟩
  reserve h := State.reserveKept_shrunk h (by simp [State.setReserve])

/-- A header takes the oldest OPEN buffer: it is the one being written (R69). -/
theorem State.Keeps.takeBuffer (h : s.oldestOpen = some b) (moving held : List BufNo) :
    s.Keeps ⟨moving, [], held⟩ (s.setReserve b .receiving) ⟨moving, [b], held⟩ := by
  refine .setReserve .receiving fun hw hl => ?_
  obtain ⟨before, after, hb, -⟩ := State.reserve_place hw (State.oldestOpen_mem h)
  obtain ⟨hwriting, hheld⟩ := hl
  rw [State.reserveIn_eq, hb] at hwriting hheld
  simp at hwriting hheld
  exact ⟨_, before, after, hb, by simp [hwriting], by simpa using hheld⟩

/-- The place of the buffer being written, with none other in that state. -/
theorem State.writing_place {moving held : List BufNo} (hw : s.wholeWith moving) (h : s.reserveOf ⟨moving, [b], held⟩) :
    ∃ before after, s.bq.reserve = before ++ ⟨b, .receiving⟩ :: after ∧ bufsIn .receiving before = [] ∧
      bufsIn .receiving after = [] ∧ (bufsIn .held (before ++ after)).Perm held := by
  obtain ⟨hwriting, hheld⟩ := h
  obtain ⟨before, after, hb, -⟩ := State.reserve_place (st := .receiving) hw (by rw [hwriting]; exact List.mem_singleton_self b)
  rw [State.reserveIn_eq, hb] at hwriting hheld
  simp at hwriting hheld
  obtain ⟨hbefore, hafter⟩ : bufsIn .receiving before = [] ∧ bufsIn .receiving after = [] := by
    simpa [List.append_eq_singleton_iff] using hwriting
  exact ⟨before, after, hb, hbefore, hafter, by simpa using hheld⟩

/-- The buffer being written is OPEN again, its DATA_OUT refused (R69, R156). -/
theorem State.Keeps.reopenBuffer (b : BufNo) (moving held : List BufNo) :
    s.Keeps ⟨moving, [b], held⟩ (s.setReserve b .opened) ⟨moving, [], held⟩ := by
  refine .setReserve .opened fun hw hl => ?_
  obtain ⟨before, after, hb, hbefore, hafter, hheld⟩ := State.writing_place hw hl
  exact ⟨_, before, after, hb, by simp [hbefore, hafter], by simpa using hheld⟩

/-- The buffer being written is HELD by a new decision, its DATA_OUT accepted (R69, R71). -/
theorem State.Keeps.holdBuffer (b : BufNo) (moving held : List BufNo) :
    s.Keeps ⟨moving, [b], held⟩ (s.setReserve b .held) ⟨moving, [], held ++ [b]⟩ := by
  refine .setReserve .held fun hw hl => ?_
  obtain ⟨before, after, hb, hbefore, hafter, hheld⟩ := State.writing_place hw hl
  refine ⟨_, before, after, hb, by simp [hbefore, hafter], ?_⟩
  simp at hheld ⊢
  exact List.perm_middle.trans ((hheld.cons b).trans (List.perm_append_singleton b held).symm)

end Pool

end Sys2Proof.Machine
end

section
/-! What keeps the laws among the operations on decisions and queues: lost messages, ended decisions, the two hand-overs, the delivery
slot (R39, R51, R52, R60, R70, R71, R76). -/

namespace Sys2Proof.Machine

-- One theorem after another: each waiting elaboration holds a thread with memory of its own.
set_option Elab.async false

section Queues

variable {s t : State} {l : Ledger} {b : BufNo}

/-! ## Buffers released -/

/-- A buffer on its way out of the holders, and then through the push rule, spares the laws (R67). -/
theorem State.Spares.pushed (h : ∀ l : Ledger, s.Keeps l t ⟨b :: l.moving, l.writing, l.held⟩)
    (hreceiver : t.cl.receiver = s.cl.receiver := by rfl) (hcard : t.fe.card = s.fe.card := by rfl) :
    s.Spares (t.pushRule b) where
  receiver := (t.pushRule_receiver b).trans hreceiver
  card := by rw [t.pushRule_fe b, hcard]
  laws l := (h l).trans (.pushRule b l.moving l.writing l.held)

/-- Counting spares the laws. -/
theorem State.Spares.count (h : s.Spares t) (c : Counter) : s.Spares (t.count c) := h.trans (.of_events id)

/-- The release of an OPEN buffer spares the laws (R70). -/
theorem State.Spares.releaseOpen (h : b ∈ s.reserveIn .opened) : s.Spares (s.releaseReserve b) := by
  rw [State.releaseReserve, if_pos (State.inReserve_of_mem h)]
  exact .pushed fun l => .dropOpen h l

/-- The buffers of lost messages freed (R70). -/
theorem State.Spares.freeLost (h : s.Spares t) (d : Nat) : s.Spares (t.freeLost d) := by
  induction d generalizing t with
  | zero => exact h
  | succ d ih =>
    simp only [State.freeLost]
    split
    case h_1 b hb => exact ih ((h.trans (.releaseOpen (State.oldestOpen_mem hb))).count _)
    case h_2 => exact h

/-- The buffer being written leaves the reserve by the push rule, its DATA_OUT of failed check accepted (R156). -/
theorem State.Keeps.releaseWriting (b : BufNo) (moving held : List BufNo) :
    s.Keeps ⟨moving, [b], held⟩ (s.releaseReserve b) ⟨moving, [], held⟩ := by
  unfold State.releaseReserve
  split
  case isTrue hin => exact (State.Keeps.dropWriting hin moving held).trans (.pushRule b moving [] held)
  case isFalse hout =>
    refine { matched := fun _ h => absurd (State.inReserve_of_mem (st := .receiving) ?_) hout }
    rw [h.1]
    exact List.mem_singleton_self b

/-! ## Decisions that end (R39, R52) -/

/-- A card decision that ends gives up the buffer it holds (R52, R71). -/
theorem State.Keeps.endCard (d : CardDecision) (c : Counter) (moving writing held : List BufNo) :
    s.Keeps ⟨moving, writing, d.hold.toList ++ held⟩ (s.endCard d c) ⟨moving, writing, held⟩ := by
  cases hd : d.hold with
  | none => rw [s.endCard_cancelled d c hd]; exact {}
  | some b =>
    cases hin : s.inReserve b with
    | true =>
      rw [s.endCard_held d c b hd (by simpa [State.inReserve] using hin)]
      have released : (s.count c).releaseReserve b = ((s.count c).dropReserve b).pushRule b := if_pos hin
      rw [released]
      have counted : s.Keeps ⟨moving, writing, b :: held⟩ (s.count c) ⟨moving, writing, b :: held⟩ := {}
      exact counted.trans ((State.Keeps.dropHeld (s := s.count c) hin moving writing held).trans (.pushRule b moving writing held))
    | false =>
      have gone : s.heldBy d = none := by rw [State.heldBy, hd, Option.filter_some, if_neg (by simp [hin])]
      have ended : s.endCard d c = s.count .standbyDrop := by simp only [State.endCard, gone]
      rw [ended]
      refine { matched := fun _ h => absurd (State.inReserve_of_mem (s := s) (b := b) (st := .held) ?_) (by simp [hin]) }
      exact h.2.symm.subset List.mem_cons_self

/-- The decisions whose turn has come end: what stays under way holds what it held (R39). -/
theorem State.Keeps.endLeading (ds : List CardDecision) (moving writing : List BufNo) :
    s.Keeps ⟨moving, writing, ds.filterMap (·.hold)⟩ (s.endLeading ds) ⟨moving, writing, (s.endLeading ds).holds⟩ := by
  induction ds generalizing s with
  | nil => exact {}
  | cons d ds ih =>
    have holds : (d :: ds).filterMap (·.hold) = d.hold.toList ++ ds.filterMap (·.hold) := by
      cases hd : d.hold <;> simp [hd]
    cases hstage : d.stage.isDiscard with
    | false => rw [s.endLeading_stays d ds hstage]; exact {}
    | true =>
      obtain ⟨k, hk⟩ : ∃ k, d.stage = .discard k := by
        cases hs : d.stage <;> simp_all [CardStage.isDiscard]
      rw [s.endLeading_ends d ds k hk, holds]
      exact (State.Keeps.endCard d k moving writing _).trans ih

/-- The end of card decisions leaves the receiver. -/
theorem State.endLeading_receiver (ds : List CardDecision) : (s.endLeading ds).cl.receiver = s.cl.receiver := by
  induction ds generalizing s with
  | nil => rfl
  | cons d ds ih =>
    simp only [State.endLeading]
    split
    · rw [ih]
      unfold State.endCard
      split <;> simp
    all_goals rfl

/-- Card decisions go on, those whose turn has come ending, with the buffers that the decisions held (R39). -/
theorem State.Keeps.decisions (ds : List CardDecision) {held : List BufNo} (h : held = ds.filterMap (·.hold)) :
    s.Keeps ⟨[], s.cl.receiver.buffer, held⟩ (s.endLeading ds) (s.endLeading ds).ledger := by
  rw [h, State.ledger, State.endLeading_receiver]
  exact .endLeading ds [] s.cl.receiver.buffer

/-- A card decision goes on to another stage with its hold (R39). -/
theorem State.Keeps.putCardStage {i : Nat} {d : CardDecision} (hd : s.fe.card[i]? = some d) (stage : CardStage) :
    s.Keeps s.ledger (s.putCardStage i d stage) (s.putCardStage i d stage).ledger := by
  rw [s.putCardStage_eq]
  refine .decisions _ ?_
  obtain ⟨hi, rfl⟩ := List.getElem?_eq_some_iff.1 hd
  refine Eq.symm ?_
  calc (s.fe.card.set i { s.fe.card[i] with stage := stage }).filterMap (·.hold)
      = ((s.fe.card.set i { s.fe.card[i] with stage := stage }).map (·.hold)).filterMap id := by simp [List.filterMap_map]
    _ = (s.fe.card.map (·.hold)).filterMap id := by
        rw [List.map_set]
        have own := List.set_getElem_self (as := s.fe.card.map (·.hold)) (i := i) (by simpa using hi)
        rw [List.getElem_map] at own
        rw [own]
    _ = s.holds := by simp [State.holds, List.filterMap_map]

/-! ## The hand-overs (R51, R60) -/

/-- The BTQs with a new record somewhere, in DESIGNATED (R51). -/
theorem State.Keeps.queued (r : TxRecord) (us ns : List TxRecord) (hrole : s.eu.role = .designated) (hattempts : r.attempts = 0)
    (hrecords : (us ++ ns).Perm (r :: (s.bq.urgentQ ++ s.bq.normalQ)))
    (hdepths : s.depthsKept → us.length ≤ urgentDepth ∧ ns.length ≤ normalDepth) (moving writing held : List BufNo) :
    s.Keeps ⟨r.buf :: moving, writing, held⟩ { s with bq := { s.bq with urgentQ := us, normalQ := ns } }
      ⟨moving, writing, held⟩ where
  whole := State.wholeWith_perm (List.perm_iff_count.2 fun x => by
    have records := (hrecords.map TxRecord.buf).count_eq x
    simp [State.holders, List.count_append, List.count_cons] at records ⊢
    omega)
  depths h := ⟨(hdepths h).1, (hdepths h).2, h.2.2⟩
  attempts := fun ⟨hq, hslot⟩ => ⟨fun x hx => by
    rcases List.mem_cons.1 (hrecords.subset hx) with rfl | hx
    · exact hattempts
    · exact hq x hx, hslot⟩
  nothing := fun _ _ hother => absurd hrole hother

/-- A buffer joins its class's BTQ, which has room, in DESIGNATED (R51). -/
theorem State.Keeps.addTx (r : TxRecord) (hrole : s.eu.role = .designated) (hroom : s.btqFull r.urgent = false)
    (hattempts : r.attempts = 0) (moving writing held : List BufNo) :
    s.Keeps ⟨r.buf :: moving, writing, held⟩ (s.addTx r) ⟨moving, writing, held⟩ := by
  unfold State.addTx
  unfold State.btqFull at hroom
  split
  case isTrue hurgent =>
    rw [if_pos hurgent, decide_eq_false_iff_not] at hroom
    refine .queued r (s.bq.urgentQ ++ [r]) s.bq.normalQ hrole hattempts ?_ (fun h => ⟨?_, h.2.1⟩) moving writing held
    · rw [List.append_assoc]
      exact List.perm_middle
    · simp
      omega
  case isFalse hnormal =>
    rw [if_neg hnormal, decide_eq_false_iff_not] at hroom
    refine .queued r s.bq.urgentQ (s.bq.normalQ ++ [r]) hrole hattempts ?_ (fun h => ⟨h.1, ?_⟩) moving writing held
    · rw [← List.append_assoc]
      exact List.perm_append_singleton r _
    · simp
      omega

/-- The hand-over of a card frame: its decision gives up its buffer, to a BTQ or by the push rule (R51, R71). -/
theorem State.Keeps.handOverCard (d : CardDecision) (f : CardFrame) (dest : Dest) (moving writing held : List BufNo) :
    s.Keeps ⟨moving, writing, d.hold.toList ++ held⟩ (s.handOverCard d f dest) ⟨moving, writing, held⟩ := by
  by_cases hrole : s.eu.role = .designated
  case neg =>
    rw [State.handOverCard, if_pos hrole]
    exact .endCard d _ moving writing held
  cases hfull : s.btqFull f.urgent with
  | true =>
    rw [State.handOverCard_full d hrole hfull]
    exact .endCard d _ moving writing held
  | false =>
    cases hheld : s.heldBy d with
    | some b =>
      rw [State.handOverCard_room d b hrole (by simp [hfull]) hheld]
      obtain ⟨hhold, hin⟩ := Option.filter_eq_some_iff.1 hheld
      rw [hhold]
      exact (State.Keeps.dropHeld hin moving writing held).trans
        (State.Keeps.addTx (s := s.dropReserve b) (txRecord b f dest) hrole hfull rfl moving writing held)
    | none =>
      have ended : s.handOverCard d f dest = s.endCard d .standbyDrop := by
        simp [State.handOverCard, State.endCard, hrole, hfull, hheld]
      rw [ended]
      exact .endCard d _ moving writing held

/-- The top free buffer taken. -/
theorem State.Keeps.popFree {rest : List BufNo} (hfree : s.bq.free = b :: rest) (l : Ledger) :
    s.Keeps l { s with bq.free := rest } ⟨b :: l.moving, l.writing, l.held⟩ where
  whole := State.wholeWith_perm (List.perm_iff_count.2 fun x => by
    simp [State.holders, hfree, List.count_append, List.count_cons]
    omega)

/-- A buffer joins the delivery queue, which has room, in DESIGNATED (R60). -/
theorem State.Keeps.addRx (r : RxRecord) (hrole : s.eu.role = .designated) (hroom : s.bq.deliveryQ.length < deliveryDepth)
    (moving writing held : List BufNo) :
    s.Keeps ⟨r.buf :: moving, writing, held⟩ { s with bq.deliveryQ := s.bq.deliveryQ ++ [r] } ⟨moving, writing, held⟩ where
  whole := State.wholeWith_perm (List.perm_iff_count.2 fun x => by
    simp [State.holders, List.count_append, List.count_cons]
    omega)
  depths := fun ⟨hu, hn, _⟩ => ⟨hu, hn, by simp; omega⟩
  nothing := fun _ _ hother => absurd hrole hother

/-- The hand-over of a frame to be delivered (R60, R61). -/
theorem State.Spares.handOverDelivery (h : s.Spares t) (overtaken : Bool) (f : DataFrame) :
    s.Spares (t.handOverDelivery overtaken f) := by
  refine h.trans ?_
  by_cases hgone : overtaken = true ∨ t.eu.role ≠ .designated
  · rw [State.handOverDelivery_discarded hgone]
    exact (State.Spares.refl t).count _
  obtain ⟨ho, hrole⟩ := not_or.1 hgone
  rw [Bool.not_eq_true] at ho
  rw [not_not] at hrole
  cases hfree : t.bq.free with
  | nil =>
    rw [State.handOverDelivery_noBuffer ho hrole hfree]
    exact (State.Spares.refl t).count _
  | cons b rest =>
    rw [State.handOverDelivery_popped b rest ho hrole hfree]
    split
    case isTrue => exact (State.Spares.pushed fun l => .popFree hfree l).count _
    case isFalse hroom =>
      refine { laws := fun l => (State.Keeps.popFree hfree l).trans ?_ }
      have added := State.Keeps.addRx (s := { t with bq.free := rest }) (rxRecord b f) hrole (Nat.not_le.1 hroom) l.moving l.writing
        l.held
      exact added.trans {}

/-! ## The delivery slot (R76) -/

/-- The delivery slot emptied, its buffer by the push rule (R76). -/
theorem State.Spares.emptyDeliverySlot (h : s.Spares t) : s.Spares t.emptyDeliverySlot := by
  refine h.trans ?_
  unfold State.emptyDeliverySlot
  split
  case h_1 r hr =>
    refine .pushed fun l => { whole := State.wholeWith_perm (List.perm_iff_count.2 fun x => ?_) }
    simp [State.holders, hr, List.count_append, List.count_cons]
    omega
  case h_2 => exact .refl t

/-- The head of the delivery queue goes to the delivery slot (R76). -/
theorem State.Spares.takeDelivery {r : RxRecord} {rs : List RxRecord} (hq : s.bq.deliveryQ = r :: rs)
    (hslot : s.bq.deliverySlot = none) : s.Spares { s with bq.deliveryQ := rs, bq.deliverySlot := some r } where
  laws l :=
    { whole := State.wholeWith_perm (List.perm_iff_count.2 fun x => by
        simp [State.holders, hq, hslot, List.count_append, List.count_cons])
      depths := fun ⟨hu, hn, hd⟩ => ⟨hu, hn, by rw [hq] at hd; exact (Nat.le_succ _).trans hd⟩
      nothing := fun _ hs hother => by
        obtain ⟨-, -, hnone, -⟩ := hs hother
        rw [hq] at hnone
        cases hnone }

end Queues

end Sys2Proof.Machine
end

section
/-! What keeps the laws among the changes of role, of operating state and of the card link (R66, R68, R77, R98, R104 to R107, R111 to
R116, R144, R151, R152, R187, R188). -/

namespace Sys2Proof.Machine

-- One theorem after another: each waiting elaboration holds a thread with memory of its own.
set_option Elab.async false

section Notes

variable {s t : State} (h : s.Spares t)

include h

/-! ## What the laws do not read -/

/-- Counting spares the laws. -/
theorem State.Spares.countN (c : Counter) (n : Nat) : s.Spares (t.countN c n) := h.trans (.of_events id)

/-- A notification spares the laws (R178). -/
theorem State.Spares.notify (k : EventKind) (a : BitVec 16) (hk : k.isAlarm = false := by rfl) : s.Spares (t.notify k a) :=
  h.trans (.of_events (EventUnit.notify_sound hk))

/-- An alarm raised spares the laws (R179). -/
theorem State.Spares.raiseAlarm (k : EventKind) (a : BitVec 16) (hk : k.isAlarm = true := by rfl) : s.Spares (t.raiseAlarm k a) :=
  h.trans (.of_events (EventUnit.raiseAlarm_sound hk))

/-- A flush requested of the walker spares the laws. -/
theorem State.Spares.requestFlush (ps : List Place) : s.Spares (t.requestFlush ps) := h.same

/-- The ANNOUNCE loaded spares the laws. -/
theorem State.Spares.loadAnnounce : s.Spares t.loadAnnounce := h.same

/-- Segment designated taken anew spares the laws. -/
theorem State.Spares.refreshDesignated : s.Spares t.refreshDesignated := by
  rw [t.refreshDesignated_eq]
  exact h.same

/-- The last steps of a change of role spare the laws. -/
theorem State.Spares.announceRole (left : Role) : s.Spares (t.announceRole left) := by
  have told := h.notify .roleChange (word16 left.code t.eu.role.code)
  refine State.Spares.refreshDesignated ?_
  exact told.same

end Notes

section Roles

variable {s t : State} {l : Ledger}

/-! ## Nothing waits and no TAKEOVER goes out -/

/-- No data frame waits: the law of the roles other than DESIGNATED (R77). -/
def State.frameless (s : State) : Prop :=
  s.bq.urgentQ = [] ∧ s.bq.normalQ = [] ∧ s.bq.deliveryQ = [] ∧ s.bq.txSlot.leaving = true

/-- No TAKEOVER waits or goes out unmarked: the law of the roles other than DESIGNATED (R113). -/
def State.takeoverless (s : State) : Prop := s.eu.takeoverHolder = none ∧ s.bp.inFlight.any InFlight.keepsTakeover = false

/-- Without RUNNING or without a link the role is DISABLED (R98). -/
theorem State.roleKept.disabled (h : s.roleKept) (hno : s.cf.opState ≠ .running ∨ s.cl.link = .down) : s.eu.role = .disabled := by
  by_contra hrole
  obtain ⟨hrun, hup⟩ := h.1 hrole
  rcases hno with hop | hdown
  · exact hop hrun
  · rw [hup] at hdown
    cases hdown

/-- The roles without data frames, DISABLED apart (R98). -/
theorem Role.withoutFrames {r : Role} (hdisabled : r ≠ .disabled) (hdesignated : r ≠ .designated) : r = .listening ∨ r = .standby := by
  cases r with
  | disabled => exact absurd rfl hdisabled
  | listening => exact .inl rfl
  | standby => exact .inr rfl
  | designated => exact absurd rfl hdesignated

/-- Outside DESIGNATED no frame waits (R77). -/
theorem State.holdsNothing.frameless (h : s.holdsNothing) (hrole : s.eu.role ≠ .designated) : s.frameless := h hrole

/-- Outside DESIGNATED no TAKEOVER waits or goes out unmarked (R113). -/
theorem State.electionKept.takeoverless (h : s.electionKept) (hrole : s.eu.role ≠ .designated) : s.takeoverless :=
  ⟨not_not.1 fun hne => hrole (h.2.1 hne), Bool.not_eq_true _ ▸ fun hany => hrole (h.2.2 hany)⟩

/-- With no TAKEOVER about, the election's law is that of the listen timer (R104, R107, R113). -/
theorem State.electionKept_of_takeoverless (h : s.takeoverless) (htimer : s.eu.listenTimer ≠ .stopped ↔ s.eu.role = .listening) :
    s.electionKept :=
  ⟨htimer, fun hne => absurd h.1 hne, fun hany => by rw [h.2] at hany; cases hany⟩

/-- A TAKEOVER in flight has its mark after a departure (R113). -/
theorem dropTakeover_keepsTakeover (c : Option InFlight) : (c.map dropTakeover).any InFlight.keepsTakeover = false := by
  cases c with
  | none => rfl
  | some c =>
    obtain ⟨frame, mark⟩ := c
    cases frame <;> rfl

/-- After a departure the slot holds no frame that stays, and is sending if it was (R77, R78). -/
theorem TxSlot.departed_spec (x : TxSlot) : x.departed.leaving = true ∧ x.departed.sending = x.sending := by
  cases x <;> exact ⟨rfl, rfl⟩

/-- A departure splits the slot's buffer off where the frame only waits (R77). -/
theorem TxSlot.departed_bufs (x : TxSlot) : x.bufs = x.waits ++ x.departed.bufs := by
  cases x <;> rfl

/-! ## Leaving DESIGNATED (R77, R113) -/

/-- The part with its waiting frames and its TAKEOVER withdrawn, the frames' buffers on their way (R77, R113). -/
def State.departed (s : State) : State :=
  { s with bq := s.bq.emptied, eu.takeoverHolder := none, bp.inFlight := s.bp.inFlight.map dropTakeover }

/-- After the departure nothing waits (R77). -/
theorem State.departed_frameless (s : State) : s.departed.frameless := ⟨rfl, rfl, rfl, s.bq.txSlot.departed_spec.1⟩

/-- After the departure no TAKEOVER waits or goes out unmarked (R113). -/
theorem State.departed_takeoverless (s : State) : s.departed.takeoverless := ⟨rfl, dropTakeover_keepsTakeover _⟩

/-- The departure keeps the laws, the buffers of the waiting frames on their way (R77). -/
theorem State.Keeps.departed : s.Keeps l s.departed ⟨s.waitingFrames ++ l.moving, l.writing, l.held⟩ where
  whole := State.wholeWith_perm (List.perm_iff_count.2 fun x => by
    simp [State.holders, State.departed, Pool.emptied, State.waitingFrames, State.waitingToSend, s.bq.txSlot.departed_bufs,
      List.count_append]
    omega)
  depths _ := ⟨Nat.zero_le _, Nat.zero_le _, Nat.zero_le _⟩
  attempts := fun ⟨_, hslot⟩ => by
    refine ⟨fun x hx => (List.not_mem_nil hx).elim, ?_⟩
    cases hs : s.bq.txSlot <;> rw [hs] at hslot <;> simp only [State.departed, Pool.emptied, hs, TxSlot.departed]
    exact hslot
  nothing _ _ _ := s.departed_frameless
  election _ h := State.electionKept_of_takeoverless s.departed_takeoverless h.1
  transmitter := fun ⟨hoff, hdrives⟩ => by
    have sending : s.departed.bq.txSlot.sending = s.bq.txSlot.sending := s.bq.txSlot.departed_spec.2
    refine ⟨fun h => ?_, fun h => ?_⟩
    · obtain ⟨hnone, hsending⟩ := hoff h
      exact ⟨by simp [State.departed, hnone], sending.trans hsending⟩
    · obtain ⟨hrun, hbusy, hone⟩ := hdrives h
      exact ⟨hrun, hbusy, by rw [sending, ← hone]; exact Option.isSome_map⟩

/-! ## Changes of role in RUNNING with the link UP -/

/-- From one role to another, neither of them DISABLED: what the new role forbids must be gone (R98). -/
theorem State.Spares.changeRole (e : Election) (hleft : s.eu.role ≠ .disabled) (hnew : e.role ≠ .disabled)
    (hframes : s.holdsNothing → State.holdsNothing { s with eu := e })
    (helection : s.electionKept → State.electionKept { s with eu := e }) : s.Spares { s with eu := e } where
  laws _ :=
    { role := fun h => ⟨fun _ => h.1 hleft, fun _ => hnew⟩
      nothing := fun _ h => hframes h
      election := fun _ h => helection h }

/-- Becoming DESIGNATED with the listen timer stopped (R111). -/
theorem State.Spares.designate (hrole : s.eu.role ≠ .disabled) (timer : Timer) (htimer : s.electionKept → timer = .stopped)
    (takeover : Option Takeover) :
    s.Spares { s with eu := { s.eu with
      role := .designated, listenTimer := timer, lastDesignated := none, takeoverHolder := takeover } } := by
  refine .changeRole _ hrole (by simp) (fun _ hother => absurd rfl hother) fun h => ⟨?_, fun _ => rfl, fun _ => rfl⟩
  simp [htimer h]

/-- Becoming DESIGNATED from STANDBY (R110, R111). -/
theorem State.Spares.becomeDesignated (h : s.Spares t) (hrole : t.eu.role = .standby) : s.Spares t.becomeDesignated := by
  refine .announceRole (.requestFlush (.loadAnnounce ?_) _) _
  refine h.trans (.designate (by simp [hrole]) t.eu.listenTimer (fun hk => ?_) _)
  by_contra hrunning
  have listening := hk.1.1 hrunning
  rw [hrole] at listening
  cases listening

/-- The end of the listen period (R107). -/
theorem State.Spares.endListening (h : s.Spares t) (hrole : t.eu.role = .listening) : s.Spares t.endListening := by
  simp only [State.endListening]
  split
  · refine .announceRole (.requestFlush (.loadAnnounce ?_) _) _
    exact h.trans (.designate (by simp [hrole]) .stopped (fun _ => rfl) _)
  · refine .announceRole (.loadAnnounce ?_) _
    refine h.trans (.changeRole { t.eu with role := .standby, listenTimer := .stopped } (by simp [hrole]) (by simp)
      (fun hk _ => hk.frameless (by simp [hrole])) fun hk => ?_)
    exact State.electionKept_of_takeoverless (hk.takeoverless (by simp [hrole])) (by simp)

/-- A pool emptied of its waiting frames after their buffers have gone by the push rule is the same as before (R77). -/
theorem Pool.released_emptied (p : Pool) (bs : List BufNo) (n : Nat) : (p.released bs n).emptied = p.emptied.released bs n := rfl

/-- Stepping down to STANDBY (R114). -/
theorem State.Spares.stepDown (h : s.Spares t) (hrole : t.eu.role = .designated) : s.Spares t.stepDown := by
  refine h.trans ?_
  have deficit : (t.quitDesignated .standby).deficit = t.departed.deficit := by
    have eligible : (t.quitDesignated .standby).creditEligible = t.departed.creditEligible := by
      simp [State.creditEligible, State.quitDesignated, State.emptyTakeover, State.departed, hrole]
      rfl
    simp only [State.deficit, eligible]
    rfl
  rw [t.stepDown_eq, deficit, Pool.released_emptied]
  refine .refreshDesignated ?_
  have released : t.Spares
      { t.departed with
        bq := t.departed.bq.released t.waitingFrames t.departed.deficit
        cl.grantTotal := t.cl.grantTotal + BitVec.ofNat 8 (min t.departed.deficit t.waitingFrames.length) } :=
    { laws := fun l => State.Keeps.departed.trans (.released t.waitingFrames l.moving l.writing l.held _ _ le_rfl) }
  have left : t.Spares
      { t.departed with
        eu := { t.departed.eu with role := .standby }
        bq := t.departed.bq.released t.waitingFrames t.departed.deficit
        cl.grantTotal := t.cl.grantTotal + BitVec.ofNat 8 (min t.departed.deficit t.waitingFrames.length) } := by
    refine released.trans (.changeRole { t.departed.eu with role := .standby } ?_ (by simp) ?_ ?_)
    · simp [State.departed, hrole]
    · exact fun _ _ => t.departed_frameless
    · refine fun hk => State.electionKept_of_takeoverless t.departed_takeoverless ⟨fun hrunning => ?_, fun h => by cases h⟩
      have listening := hk.1.1 hrunning
      simp [State.departed, hrole] at listening
  exact ((left.countN .roleDiscard t.waitingFrames.length).notify .roleChange (word16 3 2)).same

end Roles

end Sys2Proof.Machine
end

section
/-! What keeps the laws among the changes of operating state and of the card link: LISTENING with its top-up, sync gained, a duplicate
station, the link UP and DOWN, the starts and the end of LOADING (R68, R104 to R106, R144, R145, R151, R152, R185 to R188). -/

namespace Sys2Proof.Machine

-- One theorem after another: each waiting elaboration holds a thread with memory of its own.
set_option Elab.async false

section Starts

variable {s t : State} {l : Ledger}

/-- A part that is not RUNNING drives nothing (R133). -/
theorem State.transmitterKept.off (h : s.transmitterKept) (hop : s.cf.opState ≠ .running) : s.bp.transmitter = .off :=
  not_not.1 fun hne => hop (h.2 hne).1

/-- A part that drives nothing meets the transmitter's law in any operating state (R133). -/
theorem State.transmitterKept.of_off (h : s.transmitterKept) (hoff : s.bp.transmitter = .off) (htx : t.bp.transmitter = .off)
    (hflight : t.bp.inFlight = s.bp.inFlight) (hslot : t.bq.txSlot = s.bq.txSlot) : t.transmitterKept :=
  ⟨fun _ => by rw [hflight, hslot]; exact h.1 hoff, fun hne => absurd htx hne⟩

/-! ## LISTENING (R68, R104) -/

/-- The top-up of a credit-eligible station spares the laws (R68). -/
theorem State.Spares.topUp (h : s.Spares t) (he : t.creditEligible = true) : s.Spares t.topUp := by
  refine h.trans ?_
  obtain ⟨n, hn⟩ : ∃ n, n = min (t.conf.localCredits - t.bq.reserve.length) t.bq.free.length := ⟨_, rfl⟩
  rw [t.topUp_eq n hn]
  refine
    { laws := fun l =>
        { whole := State.wholeWith_perm (List.perm_iff_count.2 fun x => ?_)
          matched := fun _ hm => ?_
          reserve := fun hr => ?_ } }
  · have parts : t.bq.free.count x = (t.bq.free.take n).count x + (t.bq.free.drop n).count x := by
      rw [← List.count_append, List.take_append_drop]
    simp [State.holders, List.count_append, Function.comp_def, -List.map_take]
    omega
  · simpa [State.reserveOf, State.reserveIn_eq, -List.map_take] using hm
  · refine State.reserveKept_grown he ?_ hr.1
    rw [State.deficit, if_pos he]
    simp
    omega

/-- A station without a role takes LISTENING, in RUNNING with the link UP, and fills its reserve (R104). -/
theorem State.Spares.enterListening {u : State} (hop : u.cf.opState = .running) (hup : u.cl.link = .up)
    (h : s.Spares { u with eu.role := .listening, eu.listenTimer := .running (3 * u.conf.interval) }) :
    s.Spares u.enterListening := by
  rw [u.enterListening_eq]
  refine .topUp (.refreshDesignated ?_) ?_
  · exact (h.notify .roleChange (word16 u.eu.role.code 1)).same
  · rw [State.refreshDesignated_eq]
    simp [State.creditEligible, hop, hup]

/-! ## Sync gained (R144, R187) -/

/-- The part takes RUNNING out of SYNCING, in LISTENING if its link is UP (R104, R187). -/
theorem State.Spares.synced (hop : s.cf.opState = .syncing) (e : Election) (htakeover : e.takeoverHolder = s.eu.takeoverHolder)
    (he : if s.cl.link = .up then e.role = .listening ∧ e.listenTimer ≠ .stopped
      else e.role = s.eu.role ∧ e.listenTimer = s.eu.listenTimer) :
    s.Spares { s.synced with eu := e } where
  laws l := by
    have disabled (h : s.roleKept) : s.eu.role = .disabled := h.disabled (.inl (by simp [hop]))
    have other (h : s.roleKept) : s.eu.role ≠ .designated := by simp [disabled h]
    exact
      { reserve := fun ⟨hlen, hnone⟩ => ⟨hlen, fun _ => hnone (by simp [State.noCredit, hop])⟩
        role := fun h => by
          split at he
          case isTrue hup => simp [State.roleKept, State.synced, he.1, hup]
          case isFalse hdown => simp [State.roleKept, State.synced, he.1, disabled h, hdown]
        nothing := fun h hn _ => hn.frameless (other h)
        election := fun h hk => by
          refine State.electionKept_of_takeoverless ?_ ?_
          · exact ⟨htakeover.trans (hk.takeoverless (other h)).1, (hk.takeoverless (other h)).2⟩
          · split at he
            · exact ⟨fun _ => he.1, fun _ => he.2⟩
            · show e.listenTimer ≠ .stopped ↔ e.role = .listening
              rw [he.1, he.2]
              exact hk.1
        transmitter := fun h => h.of_off (h.off (by simp [hop])) (h.off (by simp [hop])) rfl rfl
        ladder := fun _ ⟨_, hladder, hquiet⟩ => ⟨by simp [State.synced], hladder, hquiet⟩ }

/-- Sync gained where it was sought (R144). -/
theorem State.Spares.gainSync (h : s.Spares t) : s.Spares t.gainSync := by
  refine h.trans ?_
  by_cases hop : t.cf.opState = .syncing
  case neg => rw [t.gainSync_other hop]; exact .refl t
  rw [t.gainSync_syncing hop]
  cases hlink : t.cl.link with
  | down =>
    rw [t.enterRunning_down hlink]
    exact .synced hop t.eu rfl (by simp [hlink])
  | up =>
    rw [t.enterRunning_up hlink]
    refine .enterListening rfl hlink ?_
    exact .synced hop _ rfl (by simp [hlink])

/-! ## A duplicate station (R106, R145) -/

/-- The part takes SILENT out of RUNNING while it drives nothing, with no frame waiting and no TAKEOVER about (R106). -/
theorem State.Spares.silenced (hop : s.cf.opState = .running) (hoff : s.bp.transmitter = .off)
    (hframes : s.holdsNothing → s.frameless) (htakeover : s.electionKept → s.takeoverless) :
    s.Spares { s with
      cf.opState := .silent, eu.role := .disabled, eu.listenTimer := .stopped, eu.takeoverHolder := none } where
  laws l :=
    { reserve := fun ⟨hlen, hnone⟩ => ⟨hlen, fun h => hnone (by simpa [State.noCredit, hop] using h)⟩
      role := fun _ => by simp [State.roleKept]
      nothing := fun _ hn _ => hframes hn
      election := fun _ hk => State.electionKept_of_takeoverless ⟨rfl, (htakeover hk).2⟩ (by simp)
      transmitter := fun h => h.of_off hoff hoff rfl rfl
      ladder := fun _ ⟨hsync, hladder, hquiet⟩ => ⟨by simpa [hop] using hsync, hladder, hquiet⟩ }

/-- Entry to SILENT (R106, R187). -/
theorem State.Spares.enterSilent (h : s.Spares t) (hop : t.cf.opState = .running) (hoff : t.bp.transmitter = .off) :
    s.Spares t.enterSilent := by
  refine h.trans ?_
  by_cases hrole : t.eu.role = .designated
  case pos =>
    rw [t.enterSilent_designated hrole]
    refine .refreshDesignated ?_
    have released : t.Spares { t.departed with bq := t.departed.bq.released t.waitingFrames 0 } :=
      { laws := fun l => State.Keeps.departed.trans
          (.released t.waitingFrames l.moving l.writing l.held 0 t.cl.grantTotal (Nat.zero_le _)) }
    have silent := released.trans (.silenced hop hoff (fun _ => t.departed_frameless) fun _ => t.departed_takeoverless)
    refine ((silent.countN .roleDiscard t.waitingFrames.length).notify .roleChange (word16 3 0)).same ?_
    simp [State.bare, State.departed, Pool.emptied, Pool.released, State.notify, State.countN]
  case neg =>
    have silent := State.Spares.silenced hop hoff (fun h => h.frameless hrole) fun h => h.takeoverless hrole
    by_cases hnone : t.eu.role = .disabled
    · rw [t.enterSilent_disabled hnone]
      exact silent.same
    · have left := Role.withoutFrames hnone hrole
      rw [t.enterSilent_withoutFrames rfl left]
      refine .refreshDesignated ?_
      exact (silent.notify .roleChange (word16 t.eu.role.code 0)).same

/-- The duplicate-station test, while nothing is driven (R145). -/
theorem State.Spares.testDuplicate (h : s.Spares t) (hoff : t.bp.transmitter = .off) (n : Station) :
    s.Spares (t.testDuplicate n) := by
  unfold State.testDuplicate
  split
  case isTrue hown => exact .enterSilent (h.raiseAlarm _ _) hown.1 hoff
  case isFalse => exact h

/-- A part that gains sync leaves its transmitter as it is. -/
theorem State.gainSync_transmitter (s : State) : s.gainSync.bp.transmitter = s.bp.transmitter := by
  unfold State.gainSync
  split
  · simp only [State.enterRunning]
    split <;> simp [State.setOpState, State.statusRequest]
  · rfl

/-- Byte 8 of a received frame, while nothing is driven (R124). -/
theorem State.Spares.takeHeader (h : s.Spares t) (hoff : t.bp.transmitter = .off) (header : Vector Byte 9) :
    s.Spares (t.takeHeader header) := by
  unfold State.takeHeader
  split
  · refine .testDuplicate (.gainSync ?_) ?_ _
    · exact h.same
    · exact (State.gainSync_transmitter _).trans hoff
  · exact .count (h.same (u := { t with bp.assembly := .waitIdle })) _

/-! ## The link UP (R150, R151) -/

/-- The link comes UP, and a RUNNING station without a role takes LISTENING (R104, R151). -/
theorem State.Keeps.linkUp (hdown : s.cl.link = .down) (e : Election) (htakeover : e.takeoverHolder = s.eu.takeoverHolder)
    (he : if s.cf.opState = .running ∧ s.eu.role = .disabled then e.role = .listening ∧ e.listenTimer ≠ .stopped
      else e.role = s.eu.role ∧ e.listenTimer = s.eu.listenTimer) :
    s.Keeps l { s with cl.link := .up, eu := e } l := by
  have disabled (h : s.roleKept) : s.eu.role = .disabled := h.disabled (.inr hdown)
  have other (h : s.roleKept) : s.eu.role ≠ .designated := by simp [disabled h]
  exact
    { reserve := fun ⟨hlen, hnone⟩ => ⟨hlen, fun _ => hnone (by simp [State.noCredit, hdown])⟩
      role := fun h => by
        split at he
        case isTrue hc => simp [State.roleKept, he.1, hc.1]
        case isFalse hc => simpa [State.roleKept, he.1, disabled h] using hc
      nothing := fun h hn _ => hn.frameless (other h)
      election := fun h hk => by
        refine State.electionKept_of_takeoverless ?_ ?_
        · exact ⟨htakeover.trans (hk.takeoverless (other h)).1, (hk.takeoverless (other h)).2⟩
        · split at he
          · exact ⟨fun _ => he.1, fun _ => he.2⟩
          · show e.listenTimer ≠ .stopped ↔ e.role = .listening
            rw [he.1, he.2]
            exact hk.1 }

/-- A good message, whatever the ledger (R149, R150, R151). -/
theorem State.Keeps.goodMessage : s.Keeps l s.goodMessage l := by
  rw [State.goodMessage_eq]
  unfold State.heard
  split
  case isTrue => exact {}
  case isFalse hlink =>
    have hdown : s.cl.link = .down := by cases h : s.cl.link <;> simp_all
    split
    case isTrue hc =>
      -- the receiver's change first, so that what follows spares the laws
      have read : s.Keeps l { s with cl.receiver := .header [] } l := {}
      refine read.trans (State.Spares.laws ?_ l)
      refine .enterListening hc.1 rfl ?_
      have up : State.Spares { s with cl.receiver := .header [] }
          { s with
            cl.receiver := .header [], cl.link := .up
            eu := { s.eu with role := .listening, listenTimer := .running (3 * s.conf.interval) } } :=
        { laws := fun l => .linkUp (s := { s with cl.receiver := .header [] }) hdown _ rfl (by simp [hc]) }
      exact up.same
    case isFalse hc =>
      have up : s.Keeps l { s with cl.link := .up, eu := s.eu } l := .linkUp hdown s.eu rfl (by simp [hc])
      exact up.trans {}

/-- A good message leaves the receiver at the next header (R149). -/
theorem State.goodMessage_receiver (s : State) : s.goodMessage.cl.receiver = .header [] := by
  rw [State.goodMessage_eq]
  unfold State.heard
  (repeat' split) <;> simp

/-- A good message leaves the decisions under way. -/
theorem State.goodMessage_fe (s : State) : s.goodMessage.fe = s.fe :=
  (State.tableBlocks_eq.1 s.goodMessage_tableBlocks).2.2.2.1

/-! ## The link DOWN (R152) -/

/-- The delivery queue emptied, its buffers on their way (R72, R77). -/
theorem State.Keeps.dropDelivery :
    s.Keeps l { s with bq.deliveryQ := [] } ⟨s.bq.deliveryQ.map RxRecord.buf ++ l.moving, l.writing, l.held⟩ where
  whole := State.wholeWith_perm (List.perm_iff_count.2 fun x => by
    simp [State.holders, List.count_append]
    omega)
  depths := fun ⟨hu, hn, _⟩ => ⟨hu, hn, Nat.zero_le _⟩
  nothing := fun _ h hother => ⟨(h hother).1, (h hother).2.1, rfl, (h hother).2.2.2⟩

/-- The link goes DOWN and the role to DISABLED, with the moving buffers and the reserve on the stack, no frame waiting and no
TAKEOVER about (R72, R105). -/
theorem State.Keeps.cut {free : List BufNo} (e : Election)
    (hfree : free.Perm (l.moving ++ (s.bq.reserve.map ReserveBuf.num).reverse ++ s.bq.free)) (hrole : e.role = .disabled)
    (htimer : s.electionKept → e.listenTimer = .stopped) (hholder : e.takeoverHolder = s.eu.takeoverHolder)
    (hframes : s.holdsNothing → s.frameless) (htakeover : s.electionKept → s.takeoverless) :
    s.Keeps l { s with cl.link := .down, bq.free := free, bq.reserve := [], eu := e } ⟨[], [], []⟩ where
  whole := State.wholeWith_perm (List.perm_iff_count.2 fun x => by
    have stacked := hfree.count_eq x
    simp [State.holders, List.count_append] at stacked ⊢
    omega)
  matched _ _ := ⟨rfl, .nil⟩
  reserve _ := ⟨Nat.zero_le _, fun _ => rfl⟩
  role _ := by simp [State.roleKept, hrole]
  nothing _ hn _ := hframes hn
  election _ hk :=
    State.electionKept_of_takeoverless ⟨hholder.trans (htakeover hk).1, (htakeover hk).2⟩ (by simp [htimer hk, hrole])

/-- Outside LISTENING the listen timer is stopped (R104, R107). -/
theorem State.electionKept.timer (h : s.electionKept) (hrole : s.eu.role ≠ .listening) : s.eu.listenTimer = .stopped :=
  not_not.1 fun hne => hrole (h.1.1 hne)

/-- The DOWN in a role other than DESIGNATED, before its notices: the delivery queue and the reserve on the stack (R72, R105). -/
theorem State.Keeps.cutOff (e : Election) (hother : s.eu.role ≠ .designated) (hrole : e.role = .disabled)
    (htimer : s.electionKept → e.listenTimer = .stopped) (hholder : e.takeoverHolder = s.eu.takeoverHolder)
    {writing held : List BufNo} :
    s.Keeps ⟨[], writing, held⟩ { s.cutOff with eu := e } ⟨[], [], []⟩ := by
  have emptied := State.Keeps.dropDelivery (s := s) (l := ⟨[], writing, held⟩)
  have cut := State.Keeps.cut (s := { s with bq.deliveryQ := [] }) (l := ⟨s.bq.deliveryQ.map RxRecord.buf ++ [], writing, held⟩)
    (free := (s.bq.deliveryQ.map RxRecord.buf).reverse ++ ((s.bq.reserve.map ReserveBuf.num).reverse ++ s.bq.free)) e
    (List.perm_iff_count.2 fun x => by simp [List.count_append]) hrole htimer hholder (fun h => h.frameless hother)
    fun h => h.takeoverless hother
  exact (emptied.trans cut).trans {}

/-- The DOWN: nothing is held or written after it (R152). -/
theorem State.Keeps.fallen (writing held : List BufNo) : s.Keeps ⟨[], writing, held⟩ s.fallen ⟨[], [], []⟩ := by
  by_cases hrole : s.eu.role = .designated
  case pos =>
    rw [s.fallen_designated hrole]
    have departed := State.Keeps.departed (s := s) (l := ⟨[], writing, held⟩)
    have cut := State.Keeps.cut (s := s.departed) (l := ⟨s.waitingFrames ++ [], writing, held⟩)
      (free := (s.bq.deliveryQ.map RxRecord.buf).reverse ++
        (s.waitingToSend.reverse ++ ((s.bq.reserve.map ReserveBuf.num).reverse ++ s.bq.free)))
      { s.departed.eu with role := .disabled }
      (List.perm_iff_count.2 fun x => by
        simp [State.departed, Pool.emptied, State.waitingFrames, List.count_append]
        omega)
      rfl (fun h => h.timer (by simp [State.departed, hrole])) rfl (fun _ => s.departed_frameless) fun _ => s.departed_takeoverless
    refine (departed.trans (cut.trans ?notices)).trans ((State.Spares.refl _).refreshDesignated.laws _)
    case notices =>
      let counted : EventUnit := (s.ec.countN .roleDiscard s.waitingToSend.length).countN .deliveryDrop
        (s.bq.deliveryQ.map RxRecord.buf).length
      exact { events := fun h => EventUnit.notify_sound (e := counted) (k := .roleChange) rfl h }
  case neg =>
    by_cases hnone : s.eu.role = .disabled
    case pos =>
      rw [s.fallen_disabled hnone]
      exact .cutOff s.eu hrole hnone (fun h => h.timer (by simp [hnone])) rfl
    case neg =>
      have left := Role.withoutFrames hnone hrole
      rw [s.fallen_withoutFrames rfl left]
      have cut := State.Keeps.cutOff (s := s) (writing := writing) (held := held)
        { s.eu with role := .disabled, listenTimer := .stopped } hrole rfl (fun _ => rfl) rfl
      have told := (State.Spares.refl { s.cutOff with eu := { s.eu with role := .disabled, listenTimer := .stopped } }).notify
        .roleChange (word16 s.eu.role.code 0)
      refine cut.trans (State.Spares.laws (.refreshDesignated ?_) _)
      exact told.same

/-- After the DOWN nothing is written and nothing held (R71, R152). -/
theorem State.fallen_ledger (s : State) : s.fallen.ledger = ⟨[], [], []⟩ := by
  have cut : s.cutOff.ledger = ⟨[], [], []⟩ := by
    simp [State.ledger, State.holds, State.cutOff, CardLink.goDown, Receiver.buffer, List.filterMap_map]
  by_cases hrole : s.eu.role = .designated
  case pos =>
    rw [s.fallen_designated hrole, (State.Spares.refl _).refreshDesignated.ledger]
    exact cut
  case neg =>
    by_cases hnone : s.eu.role = .disabled
    case pos => rw [s.fallen_disabled hnone, cut]
    case neg =>
      have left := Role.withoutFrames hnone hrole
      rw [s.fallen_withoutFrames rfl left, (State.Spares.refl _).refreshDesignated.ledger]
      exact cut

/-! ## The starts (R183, R188) -/

/-- A part whose pool, election, bus port and events are as at reset, in LOADING, meets every law (R183, R188). -/
theorem State.Keeps.of_restart (hpool : ∃ contents, t.bq = { Pool.reset with contents := contents }) (hrole : t.eu = .reset)
    (hbus : ∃ medium, t.bp = { BusPort.reset with medium := medium }) (hop : t.cf.opState = .loading)
    (hevents : ∃ counters, t.ec = { EventUnit.reset with counters := counters }) : s.Keeps l t ⟨[], [], []⟩ := by
  obtain ⟨contents, hpool⟩ := hpool
  obtain ⟨medium, hbus⟩ := hbus
  obtain ⟨counters, hevents⟩ := hevents
  exact
    { whole := fun _ => by
        have holders : t.holders = State.reset.holders := by rw [State.holders, hpool]; rfl
        rw [State.wholeWith, holders]
        exact State.reset_poolWhole
      matched := fun _ _ => by simp [State.reserveOf, State.reserveIn_eq, hpool, Pool.reset]
      depths := fun _ => by simp [State.depthsKept, hpool, Pool.reset]
      attempts := fun _ => by simp [State.attemptsKept, hpool, Pool.reset]
      reserve := fun _ => by simp [State.reserveKept, hpool, Pool.reset]
      events := fun _ => by simp [State.eventsKept, hevents, EventUnit.reset]
      role := fun _ => by simp [State.roleKept, hrole, hop, Election.reset]
      nothing := fun _ _ _ => by simp [hpool, Pool.reset, TxSlot.leaving]
      election := fun _ _ => by simp [State.electionKept, hrole, hbus, Election.reset, BusPort.reset]
      transmitter := fun _ => by simp [State.transmitterKept, hpool, hbus, BusPort.reset, Pool.reset, TxSlot.sending]
      ladder := fun _ _ => by simp [State.ladderKept, hbus, hop, BusPort.reset] }

/-- The warm restart: nothing is held or written after it (R188). -/
theorem State.Keeps.warmRestart (straps : Station) :
    s.Keeps l (t.warmRestart straps) (t.warmRestart straps).ledger := by
  have empty : (t.warmRestart straps).ledger = ⟨[], [], []⟩ := by
    have unwritten : t.cl.warmRestart.receiver.buffer = [] := by
      have stale : t.cl.warmRestart.receiver = restartReceiver t.cl.receiver := by
        simp only [CardLink.warmRestart]
        split <;> rfl
      rw [stale]
      cases t.cl.receiver <;> rfl
    have unheld : (t.warmRestart straps).holds = [] := by
      simp [State.holds, State.warmRestart, State.overtakeFrames, State.cancelHolds, List.filterMap_map]
    rw [State.ledger, unheld]
    exact congrArg (Ledger.mk [] · []) unwritten
  rw [empty]
  exact .of_restart ⟨t.bq.contents, rfl⟩ rfl ⟨t.bp.medium, rfl⟩ rfl ⟨t.ec.counters, rfl⟩

/-- The card link DOWN, with the warm restart where one follows (R152, R173). -/
theorem State.Keeps.linkDown (straps : Station) :
    s.Keeps s.ledger (s.linkDown straps) (s.linkDown straps).ledger := by
  rw [s.linkDown_eq]
  split
  · exact .warmRestart straps
  · rw [s.fallen_ledger]
    exact .fallen _ _

/-! ## The end of LOADING (R185, R186) -/

/-- From LOADING the part goes to CONFIG_FAULT or SYNCING: its reserve is empty and it drives nothing (R185, R186). -/
theorem State.Spares.leaveLoading (hop : s.cf.opState = .loading) (cf : Loader)
    (hnext : cf.opState = .configFault ∨ cf.opState = .syncing) (bp : BusPort) (hbp : bp = s.bp ∨ bp = s.bp.startSeeking) :
    s.Spares { s with cf := cf, bp := bp } where
  laws l := by
    have notRunning : cf.opState ≠ .running := by rcases hnext with h | h <;> simp [h]
    have flight : bp.inFlight = s.bp.inFlight ∧ bp.transmitter = s.bp.transmitter := by
      rcases hbp with rfl | rfl <;> exact ⟨rfl, rfl⟩
    have disabled (h : s.roleKept) : s.eu.role = .disabled := h.disabled (.inl (by simp [hop]))
    exact
      { reserve := fun ⟨_, hnone⟩ => by
          have empty : s.bq.reserve = [] := hnone (by simp [State.noCredit, hop])
          exact ⟨by simp [empty], fun _ => empty⟩
        role := fun h => by simp [State.roleKept, disabled h, notRunning]
        election := fun _ hk => by simpa only [State.electionKept, flight.1] using hk
        transmitter := fun h => by
          have off := h.off (by simp [hop])
          exact h.of_off off (flight.2.trans off) flight.1 rfl
        ladder := fun _ ⟨hsync, hladder, hquiet⟩ => by
          have notSynced : s.bp.sync ≠ .synced := by simp [hsync, hop]
          have unsynced : bp.sync ≠ .synced := by rcases hbp with rfl | rfl <;> simp [notSynced, BusPort.startSeeking]
          have notSilent : cf.opState ≠ .silent := by rcases hnext with h | h <;> simp [h]
          refine ⟨by simp [unsynced, notRunning, notSilent], ?_⟩
          rcases hbp with rfl | rfl
          · exact ⟨hladder, hquiet⟩
          · exact ⟨hladder, Nat.zero_le _⟩ }

/-- The image rejected (R185). -/
theorem State.Spares.rejectImage (h : s.Spares t) (hop : t.cf.opState = .loading) (reason low : Nat) :
    s.Spares (t.rejectImage reason low) := by
  have left := h.trans (.leaveLoading hop ⟨.configFault, t.cf.station, none, []⟩ (.inl rfl) t.bp (.inl rfl))
  refine .raiseAlarm ?_ _ _
  exact left.same

/-- The end of LOADING (R186). -/
theorem State.Spares.endLoading (h : s.Spares t) (hop : t.cf.opState = .loading) (c : Config) (rs : List StaticRecord) :
    s.Spares (t.endLoading c rs) := by
  have left := h.trans (.leaveLoading hop ⟨.syncing, t.cf.station, some c, []⟩ (.inr rfl) t.bp.startSeeking (.inr rfl))
  exact left.same

/-- One byte read of the image (R184, R185). -/
theorem State.Spares.byteRead (h : s.Spares t) (hop : t.cf.opState = .loading) (answer : Option Byte) :
    s.Spares (t.byteRead answer) := by
  have reads (image : List Byte) : s.Spares { t with cf.image := image } := h.same
  unfold State.byteRead
  split
  · unfold State.judgeImage
    split
    · exact reads _
    · split
      · exact h.rejectImage hop _ _
      · split
        · exact reads _
        · split
          · exact h.rejectImage hop _ _
          · exact h.endLoading hop _ _
  · exact h.endLoading hop _ _
  · exact h.rejectImage hop _ _

end Starts

end Sys2Proof.Machine
end

section
/-! What keeps the laws among the reports and frames taken, the arbiter's choice and the requests. -/

namespace Sys2Proof.Machine

-- One theorem after another: each waiting elaboration holds a thread with memory of its own.
set_option Elab.async false

section Operations

variable {s t : State} (h : s.Spares t)

include h

/-- The peer table written anew. -/
theorem State.Spares.setPeers (p : PeerTable) : s.Spares { t with pt := p } := h.same

/-- The counters written anew. -/
theorem State.Spares.setCounters (c : Vector (BitVec 32) 28) : s.Spares { t with ec := { t.ec with counters := c } } :=
  h.trans (.of_events id)

/-! ## Reports (R90 to R94, R108 to R110, R116) -/

/-- Last designated after a report (R103). -/
theorem State.Spares.noteDesignated (k : ReportKind) (n : Station) (p : Option Peer) : s.Spares (t.noteDesignated k n p) := by
  unfold State.noteDesignated
  (repeat' split) <;> exact h.same

/-- Two DESIGNATED stations in a segment (R116, R117). -/
theorem State.Spares.resolveDual (hrole : t.eu.role = .designated) (k : ReportKind) (n : Station) (p : Peer) :
    s.Spares (t.resolveDual k n p) := by
  unfold State.resolveDual
  split
  · exact h.loadAnnounce
  · split
    · exact h.stepDown hrole
    · exact (h.stepDown hrole).raiseAlarm _ _

/-- The election's acting on a report, by its role (R108 to R110, R116). -/
theorem State.Spares.actOnReport (k : ReportKind) (n : Station) (p q : Option Peer) : s.Spares (t.actOnReport k n p q) := by
  unfold State.actOnReport
  split
  case h_1 hrole =>
    split
    · exact h.becomeDesignated hrole
    · exact h
  case h_2 hrole =>
    split
    · split
      · exact h.resolveDual hrole _ _ _
      · exact h
    · exact h
  all_goals exact h

/-- A report taken (R102, R103, R109). -/
theorem State.Spares.report (k : ReportKind) (n : Station) (p q : Option Peer) : s.Spares (t.report k n p q) :=
  ((h.noteDesignated k n q).actOnReport k n p q).refreshDesignated

/-- The REMOVED reports (R91). -/
theorem State.Spares.reportRemoved (xs : List (Station × Peer)) : s.Spares (t.reportRemoved xs) := by
  induction xs generalizing t with
  | nil => exact h
  | cons x xs ih => exact ih (h.report _ _ _ _)

/-- PEER_DOWN for each removed station (R91). -/
theorem State.Spares.notifyDown (xs : List (Station × Peer)) : s.Spares (t.notifyDown xs) := by
  induction xs generalizing t with
  | nil => exact h
  | cons x xs ih => exact ih (h.notify _ _)

/-- The announce timer's expiry (R90 to R92). -/
theorem State.Spares.agePeers : s.Spares t.agePeers := by
  have told (u : State) (hu : s.Spares u) (xs : List (Station × Peer)) (ps : List Place) :
      s.Spares (((u.notifyDown xs).requestFlush ps).reportRemoved xs) :=
    ((hu.notifyDown xs).requestFlush ps).reportRemoved xs
  simp only [State.agePeers]
  split
  · exact (told _ (h.setPeers _) _ _).loadAnnounce
  · exact told _ (h.setPeers _) _ _

/-- PEER_UP or PEER_RESTART (R84, R86). -/
theorem State.Spares.notifyPeer (n : Station) (p : Option Peer) (r : Role) : s.Spares (t.notifyPeer n p r) := by
  unfold State.notifyPeer
  split
  · exact h.notify _ _
  · split
    · exact h.notify _ _
    · exact h

/-- INTERVAL_MISMATCH (R85). -/
theorem State.Spares.notifyInterval (n : Station) (p : Option Peer) (i : Nat) : s.Spares (t.notifyInterval n p i) := by
  unfold State.notifyInterval
  split
  · exact h.notify _ _
  · exact h

/-- The flush of a peer's place (R86, R87). -/
theorem State.Spares.flushPeer (n : Station) (p : Option Peer) (r : Role) : s.Spares (t.flushPeer n p r) := by
  unfold State.flushPeer
  split
  · exact h.requestFlush _
  · exact h

/-- The flush a TAKEOVER asks for (R93, R94). -/
theorem State.Spares.flushPrevious (n : Station) (p : Option Station) : s.Spares (t.flushPrevious n p) := by
  unfold State.flushPrevious
  (repeat' split) <;> exact h.same

/-- A good ANNOUNCE (R84 to R88). -/
theorem State.Spares.takeAnnounce (n : Station) (a : Announce) : s.Spares (t.takeAnnounce n a) := by
  refine report (flushPeer (notifyInterval (notifyPeer ?_ _ _ _) _ _ _) _ _ _) _ _ _ _
  exact h.same

/-- A good TAKEOVER (R93, R94). -/
theorem State.Spares.takeTakeover (n : Station) (o : Takeover) : s.Spares (t.takeTakeover n o) := by
  unfold State.takeTakeover
  split
  · exact h.flushPrevious _ _
  · refine report (flushPrevious ?_ _ _) _ _ _ _
    exact h.same

/-- A good frame handed on (R55, R83, R89). -/
theorem State.Spares.handOn (c : FrameClass) : s.Spares (t.handOn c) := by
  unfold State.handOn
  split
  · split
    · exact h
    · simp only [State.takeData]
      split <;> exact h.same
  · split
    · exact h
    · exact h.takeAnnounce _ _
  · split
    · exact h
    · exact h.takeTakeover _ _
  all_goals exact h

/-! ## The arbiter and the requests (R159 to R173) -/

/-- The arbiter's choice (R159). -/
theorem State.Spares.arbitrate : s.Spares t.arbitrate := by
  refine h.trans ?_
  rcases t.arbitrate_cases with
    hu | ⟨-, -, ⟨f, hu⟩ | hu | ⟨r, rs, -, hu⟩ | ⟨e, es, he, hu⟩ | ⟨r, rs, body, hq, hslot, hu⟩ | hu⟩ <;> rw [hu]
  case inr.inr.inr.inr.inl =>
    exact (State.Spares.of_events (e := { t.ec with queue := es }) (EventUnit.sent_sound he)).same
  case inr.inr.inr.inr.inr.inl => exact (State.Spares.takeDelivery hq hslot).same
  all_goals exact .of_bare rfl

/-- A response made (R165). -/
theorem State.Spares.respond (st : Status) (rs : List Byte) (w : Bool) : s.Spares (t.respond st rs w) := by
  unfold State.respond
  (repeat' split) <;> exact h.same

/-- An answer. -/
theorem State.Spares.answer (st : Status) (rs : List Byte) : s.Spares (t.answer st rs) := h.respond st rs false

/-- A request offered (R161, R164). -/
theorem State.Spares.offerRequest (tag : Byte) (body : List Byte) : s.Spares (t.offerRequest tag body) := by
  unfold State.offerRequest
  (repeat' split) <;> exact h.same

/-- A walker's completion handed over (R33, R169). -/
theorem State.Spares.flushDone (removed : Nat) : s.Spares (t.flushDone removed) := by
  unfold State.flushDone
  split
  · exact h.answer _ _
  · exact h

/-- The cursor's move, or the job's completion (R30, R33). -/
theorem State.Spares.advanceCursor : s.Spares t.advanceCursor := by
  unfold State.advanceCursor
  split
  · simp only [State.completeJob]
    split
    · refine flushDone ?_ _
      exact h.same
    all_goals exact h.same
  · exact h.same

/-- READ_ENTRY (R167). -/
theorem State.Spares.doReadEntry (args : List Byte) : s.Spares (t.doReadEntry args) := by
  unfold State.doReadEntry
  split
  · dsimp only
    split <;> exact h.answer _ _
  · exact h

/-- READ_BUCKET (R167). -/
theorem State.Spares.doReadBucket (args : List Byte) : s.Spares (t.doReadBucket args) := by
  unfold State.doReadBucket
  split
  · exact h.answer _ _
  · exact h

/-- ADD_STATIC (R168). -/
theorem State.Spares.doAddStatic (args : List Byte) : s.Spares (t.doAddStatic args) := by
  unfold State.doAddStatic
  split
  · split
    · split
      · exact h.answer _ _
      · simp only [State.claimStatic]
        split
        · refine answer ?_ _ _
          exact h.same
        · exact h.answer _ _
    · exact h.answer _ _
  · exact h

/-- REMOVE (R168). -/
theorem State.Spares.doRemove (args : List Byte) : s.Spares (t.doRemove args) := by
  unfold State.doRemove
  split
  · dsimp only
    split
    · refine answer ?_ _ _
      exact h.same
    · exact h.answer _ _
  · exact h

/-- FLUSH (R169). -/
theorem State.Spares.doFlush (args : List Byte) : s.Spares (t.doFlush args) := by
  unfold State.doFlush
  split
  · split
    · exact h.same
    · exact h.answer _ _
  · exact h

/-- READ_PEER (R170). -/
theorem State.Spares.doReadPeer (args : List Byte) : s.Spares (t.doReadPeer args) := by
  unfold State.doReadPeer
  split
  · split
    · split
      · exact h.answer _ _
      · split <;> exact h.answer _ _
    · exact h.answer _ _
  · exact h

/-- READ_COUNTERS (R171). -/
theorem State.Spares.doReadCounters (args : List Byte) : s.Spares (t.doReadCounters args) := by
  unfold State.doReadCounters
  split
  · dsimp only
    split
    · exact h.answer _ _
    · split
      · exact answer (h.setCounters _) _ _
      · exact h.answer _ _
  · exact h

/-- ACK_EVENT names an alarm (R172). -/
theorem State.Spares.doAckEvent (args : List Byte) : s.Spares (t.doAckEvent args) := by
  unfold State.doAckEvent
  split
  · split
    case h_1 k hk =>
      have alarm : k.isAlarm = true := by
        have named := List.mem_of_find?_eq_some hk
        revert named
        cases k <;> simp [EventKind.isAlarm]
      exact answer (h.trans (.of_events (EventUnit.acknowledge_sound alarm))) _ _
    case h_2 => exact h.answer _ _
  · exact h

/-- A DATA_IN sent (R76, R158). -/
theorem State.Spares.endDataIn (straddled : Bool) : s.Spares (t.endDataIn straddled) := by
  have sent : s.Spares t.messageSent := h.same
  refine (sent.emptyDeliverySlot.count .delivered).same ?_
  simp only [State.endDataIn, CardLink.advanceDelivered]
  split <;> rfl

/-- The accept total taken or refused (R157). -/
theorem State.Spares.takeAccept (total : Byte) : s.Spares (t.takeAccept total) := by
  unfold State.takeAccept
  split
  · exact h.same
  · exact (h.count _).raiseAlarm _ _

end Operations

end Sys2Proof.Machine
end

section
/-! What keeps the laws among the bus port's own events: the ladder, the frames sent and their ends (R74, R75, R134 to R144). -/

namespace Sys2Proof.Machine

-- One theorem after another: each waiting elaboration holds a thread with memory of its own.
set_option Elab.async false

section Bus

variable {s t : State} {l : Ledger}

/-! ## The medium and the ladder (R134, R144) -/

/-- The medium leaves idle: the ladder is given up (R134). -/
theorem State.Spares.occupy (s : State) (m : Medium) : s.Spares { s with bp := s.bp.occupy m } where
  laws _ :=
    { transmitter := fun ⟨hoff, hdrives⟩ => ⟨hoff, fun h => ⟨(hdrives h).1, rfl, (hdrives h).2.2⟩⟩
      ladder := fun _ ⟨hsync, _, _⟩ => ⟨hsync, fun h => absurd rfl h, Nat.zero_le _⟩ }

/-- The ladder moves on where one stands, and the quiet count in its bound (R134, R144). -/
theorem State.Spares.climb (hstands : s.bp.ladder ≠ .busy) (ladder : Ladder) (n : Nat) (hn : n ≤ max s.bp.quietCount 65) :
    s.Spares { s with bp.ladder := ladder, bp.quietCount := n } where
  laws _ :=
    { transmitter := fun ⟨hoff, hdrives⟩ => ⟨hoff, fun h => absurd (hdrives h).2.1 hstands⟩
      ladder := fun _ ⟨hsync, hidle, hquiet⟩ => ⟨hsync, fun _ => hidle hstands, by
        refine hn.trans (max_le hquiet ?_)
        decide⟩ }

/-- A slot inside the gap (R134). -/
theorem State.Spares.passSlot (s : State) : s.Spares s.passSlot := by
  rcases s.passSlot_cases with hu | ⟨-, hgap, n, hn, hu⟩ <;> rw [hu]
  · exact .refl s
  · exact .climb (by simp [hgap]) _ n hn

/-- The quiet count stepped stays below 66 (R144). -/
theorem State.stepQuiet_cases (s : State) (slots : Nat) :
    ∃ n, n ≤ max s.bp.quietCount 65 ∧ s.stepQuiet slots = { s with bp.quietCount := n } := by
  unfold State.stepQuiet
  split
  · exact ⟨_, (Nat.min_le_left _ _).trans (Nat.le_max_right _ 65), rfl⟩
  · exact ⟨_, Nat.le_max_left _ _, rfl⟩

/-- What the medium's going idle counts (R124, R143). -/
theorem State.Spares.countCut (s : State) (truncated : Bool) : s.Spares (s.countCut truncated) := by
  have same := State.Spares.refl s
  unfold State.countCut
  split
  · exact same.count _
  · split
    · exact same.count _
    · exact same
  · exact same

/-- The medium goes idle while nothing is driven (R134). -/
theorem State.Spares.goIdle (hoff : s.bp.transmitter = .off) (a : Assembly) :
    s.Spares { s with bp.medium := .idle, bp.ladder := .gap 2, bp.assembly := a } where
  laws _ :=
    { transmitter := fun h => h.of_off hoff hoff rfl rfl
      ladder := fun _ ⟨hsync, _, hquiet⟩ => ⟨hsync, fun _ => rfl, hquiet⟩ }

/-! ## Frames sent (R74, R136, R138, R139) -/

/-- A control frame goes out; the TAKEOVER only from its holder (R138). -/
theorem State.Spares.sendControl (hoff : s.bp.transmitter = .off) (hop : s.cf.opState = .running) (c : ControlFrame) (e : Election)
    (hrole : e.role = s.eu.role) (htimer : e.listenTimer = s.eu.listenTimer)
    (hholder : e.takeoverHolder ≠ none ∨ InFlight.keepsTakeover ⟨c, false⟩ = true → s.eu.takeoverHolder ≠ none) :
    s.Spares { s with eu := e, bp := { s.bp.driving with inFlight := some ⟨c, false⟩ } } where
  laws _ :=
    { role := fun h => by simpa only [State.roleKept, hrole] using h
      nothing := fun _ h hother => h (hrole ▸ hother)
      election := fun _ ⟨hlisten, hwaits, _⟩ =>
        ⟨by rw [htimer, hrole]; exact hlisten, fun h => hrole.trans (hwaits (hholder (.inl h))),
          fun h => hrole.trans (hwaits (hholder (.inr h)))⟩
      transmitter := fun ⟨hidle, _⟩ =>
        ⟨fun h => (by cases h), fun _ => ⟨hop, rfl, by simp [(hidle hoff).2]⟩⟩
      ladder := fun _ ⟨hsync, _, _⟩ => ⟨hsync, fun h => absurd rfl h, Nat.zero_le _⟩ }

/-- A data frame that waited goes out (R74, R139). -/
theorem State.Spares.sendData (hoff : s.bp.transmitter = .off) (hop : s.cf.opState = .running) (r : TxRecord)
    (us ns : List TxRecord) (hframes : ¬s.frameless)
    (hbufs : (r.buf :: (us ++ ns).map TxRecord.buf).Perm ((s.bq.urgentQ ++ s.bq.normalQ).map TxRecord.buf ++ s.bq.txSlot.bufs))
    (hus : us.Sublist s.bq.urgentQ) (hns : ns.Sublist s.bq.normalQ) (hattempts : s.attemptsKept → r.attempts < attemptLimit) :
    s.Spares { s with
      bq := { s.bq with urgentQ := us, normalQ := ns, txSlot := .onMedium r false }, bp := s.bp.driving } where
  laws _ :=
    { whole := State.wholeWith_perm (List.perm_iff_count.2 fun x => by
        have waited := hbufs.count_eq x
        simp [State.holders, TxSlot.bufs, List.count_append, List.count_cons] at waited ⊢
        omega)
      depths := fun ⟨hu, hn, hd⟩ => ⟨hus.length_le.trans hu, hns.length_le.trans hn, hd⟩
      attempts := fun h => ⟨fun x hx => h.1 x ((hus.append hns).mem hx), hattempts h⟩
      nothing := fun _ h hother => absurd (h.frameless hother) hframes
      transmitter := fun ⟨hidle, _⟩ =>
        ⟨fun h => (by cases h), fun _ => ⟨hop, rfl, by simp [(hidle hoff).1, BusPort.driving, TxSlot.sending]⟩⟩
      ladder := fun _ ⟨hsync, _, _⟩ => ⟨hsync, fun h => absurd rfl h, Nat.zero_le _⟩ }

/-- What the station sends at its rung (R74, R136). -/
theorem State.Spares.sendNext (hoff : s.bp.transmitter = .off) (hop : s.cf.opState = .running) : s.Spares s.sendNext := by
  cases htakeover : s.eu.takeoverHolder with
  | some o =>
    rw [State.sendNext_takeover htakeover]
    exact .sendControl hoff hop _ { s.eu with takeoverHolder := none } rfl rfl fun _ => by simp [htakeover]
  | none =>
    cases hannounce : s.eu.announceHolder with
    | some a =>
      rw [State.sendNext_announce htakeover hannounce]
      exact .sendControl hoff hop _ { s.eu with announceHolder := none } rfl rfl fun h => by
        rcases h with h | h
        · exact h
        · cases h
    | none =>
      cases hslot : s.bq.txSlot with
      | waiting r =>
        rw [State.sendNext_waiting htakeover hannounce hslot]
        refine .sendData hoff hop r s.bq.urgentQ s.bq.normalQ (fun h => ?_) ?_ (.refl _) (.refl _) fun h => ?_
        · have leaving := h.2.2.2
          rw [hslot] at leaving
          cases leaving
        · rw [hslot]
          exact (List.perm_append_singleton _ _).symm
        · have below := h.2
          rw [hslot] at below
          exact below
      | onMedium r marked =>
        have passed : s.sendNext = s := by simp only [State.sendNext, State.sendNextData, htakeover, hannounce, hslot]
        rw [passed]
        exact .refl s
      | empty =>
        cases hurgent : s.bq.urgentQ with
        | cons r rs =>
          rw [State.sendNext_urgent htakeover hannounce hslot hurgent]
          refine .sendData hoff hop r rs s.bq.normalQ (fun h => ?_) ?_ ?_ (.refl _) fun h => ?_
          · simpa [hurgent] using h.1
          · simp [hurgent, hslot, TxSlot.bufs]
          · rw [hurgent]; exact List.sublist_cons_self r rs
          · have unsent := h.1 r (by simp [hurgent])
            rw [unsent]; decide
        | nil =>
          cases hnormal : s.bq.normalQ with
          | cons r rs =>
            rw [State.sendNext_normal htakeover hannounce hslot hurgent hnormal]
            refine .trans (.sendData hoff hop r [] rs (fun h => ?_) ?_ (List.nil_sublist _) ?_ fun h => ?_) (.of_bare ?same)
            · simpa [hnormal] using h.2.1
            · simp [hurgent, hnormal, hslot, TxSlot.bufs]
            · rw [hnormal]; exact List.sublist_cons_self r rs
            · have unsent := h.1 r (by simp [hnormal])
              rw [unsent]; decide
            case same => simp only [State.bare, hurgent]
          | nil =>
            have passed : s.sendNext = s := by
              simp only [State.sendNext, State.sendNextData, htakeover, hannounce, hslot, hurgent, hnormal]
            rw [passed]
            exact .refl s

/-- A rung begins (R134 to R136). -/
theorem State.Spares.beginRung (hoff : s.bp.transmitter = .off) (hstands : s.bp.ladder ≠ .busy) (k : Fin 64) :
    s.Spares (s.beginRung k) := by
  obtain ⟨n, hn, hquiet⟩ := s.stepQuiet_cases s.bp.ladder.slots
  have begun : s.Spares { s with bp.ladder := .rung k, bp.quietCount := n } := .climb hstands _ n hn
  simp only [State.beginRung, hquiet]
  split
  case isTrue hsends =>
    refine begun.trans (.sendNext hoff ?_)
    simp only [State.maySend, Bool.and_eq_true, beq_iff_eq] at hsends
    exact hsends.1.1.1
  case isFalse => exact begun

/-! ## Ends of frames (R75, R78, R138, R139, R141) -/

/-- A control frame's end clears the frame in flight; a TAKEOVER is back in its holder only in DESIGNATED (R113, R138). -/
theorem State.Spares.endControl (hdrives : s.bp.transmitter ≠ .off) (hflight : s.bp.inFlight.isSome = true) (e : Election)
    (hrole : e.role = s.eu.role) (htimer : e.listenTimer = s.eu.listenTimer)
    (hholder : s.electionKept → e.takeoverHolder ≠ none → s.eu.role = .designated) :
    s.Spares { s with bp.transmitter := .off, bp.inFlight := none, eu := e } where
  laws _ :=
    { role := fun h => by simpa only [State.roleKept, hrole] using h
      nothing := fun _ h hother => h (hrole ▸ hother)
      election := fun _ h =>
        ⟨by rw [htimer, hrole]; exact h.1, fun hne => hrole.trans (hholder h hne), fun hany => by cases hany⟩
      transmitter := fun ⟨_, hone⟩ => by
        obtain ⟨-, -, hone⟩ := hone hdrives
        rw [hflight] at hone
        exact ⟨fun _ => ⟨rfl, by simpa using hone.symm⟩, fun h => absurd rfl h⟩ }

/-- A data frame's end empties the slot, the buffer on its way (R75, R139). -/
theorem State.Keeps.endData (hflight : s.bp.inFlight = none) {r : TxRecord} {marked : Bool}
    (hslot : s.bq.txSlot = .onMedium r marked) :
    s.Keeps l { s with bp.transmitter := .off, bq.txSlot := .empty } ⟨r.buf :: l.moving, l.writing, l.held⟩ where
  whole := State.wholeWith_perm (List.perm_iff_count.2 fun x => by
    simp [State.holders, hslot, TxSlot.bufs, List.count_append, List.count_cons]
    omega)
  attempts := fun h => ⟨h.1, trivial⟩
  nothing := fun _ h hother => ⟨(h hother).1, (h hother).2.1, (h hother).2.2.1, rfl⟩
  transmitter := fun _ => ⟨fun _ => ⟨hflight, rfl⟩, fun h => absurd rfl h⟩

/-- A data frame that has collided waits for its next attempt; it was not marked, so that the role is DESIGNATED (R75, R78). -/
theorem State.Spares.retry (hflight : s.bp.inFlight = none) {r : TxRecord} (hslot : s.bq.txSlot = .onMedium r false)
    (hroom : ¬attemptLimit ≤ r.attempts + 1) :
    s.Spares { s with bp.transmitter := .off, bq.txSlot := .waiting { r with attempts := r.attempts + 1 } } where
  laws _ :=
    { whole := State.wholeWith_perm (List.perm_iff_count.2 fun x => by simp [State.holders, hslot, TxSlot.bufs])
      attempts := fun h => ⟨h.1, Nat.not_le.1 hroom⟩
      nothing := fun _ h hother => by
        have leaving := (h hother).2.2.2
        rw [hslot] at leaving
        cases leaving
      transmitter := fun _ => ⟨fun _ => ⟨hflight, rfl⟩, fun h => absurd rfl h⟩ }

/-- The jam's end, for the frame that collided (R75, R78, R138, R139). -/
theorem State.Spares.endJam (hjam : s.bp.transmitter = .jam) : s.Spares (State.endJam { s with bp.transmitter := .off }) := by
  have drives : s.bp.transmitter ≠ .off := by simp [hjam]
  let stopped : State := { s with bp.transmitter := .off }
  cases hflight : s.bp.inFlight with
  | some c =>
    rw [State.endJam_control (s := stopped) hflight]
    have flies : s.bp.inFlight.isSome = true := by rw [hflight]; rfl
    have dropped : s.Spares { s with bp.transmitter := .off, bp.inFlight := none, eu := s.eu } :=
      .endControl drives flies s.eu rfl rfl fun h => h.2.1
    simp only [State.returnControl]
    split
    case isTrue => exact dropped
    case isFalse hmark =>
      split
      case h_1 a _ =>
        split
        · exact dropped.same
        · exact dropped
      case h_2 o ho =>
        split
        · refine .endControl drives flies { s.eu with takeoverHolder := some o } rfl rfl fun h _ => h.2.2 ?_
          simpa [hflight, InFlight.keepsTakeover, ho] using hmark
        · exact dropped
  | none =>
    cases hslot : s.bq.txSlot with
    | onMedium r marked =>
      rw [State.endJam_data (s := stopped) hflight hslot]
      simp only [State.returnData]
      cases marked with
      | true => exact .pushed fun l => (State.Keeps.endData hflight hslot).trans (((State.Spares.refl _).count .roleDiscard).laws _)
      | false =>
        rw [if_neg Bool.false_ne_true]
        split
        case isTrue => exact ((State.Spares.pushed fun l => .endData hflight hslot).count .excessDrops).notify _ _
        case isFalse hroom => exact .retry hflight hslot hroom
    | empty | waiting =>
      -- a jam without a frame, which no run reaches: the transmitter alone goes OFF
      have ended : stopped.endJam = stopped := by simp only [State.endJam, stopped, hflight, hslot]
      rw [ended]
      exact
        { laws := fun l =>
            { transmitter := fun _ => ⟨fun _ => ⟨hflight, by simp [stopped, hslot, TxSlot.sending]⟩, fun h => absurd rfl h⟩ } }

/-- A collision: the jam is driven in the frame's stead (R141). -/
theorem State.Spares.collide (hframe : s.bp.transmitter = .frame) (p : Station) :
    s.Spares { s with bp.transmitter := .jam, bp.pointer := p, bp.medium := .collision } where
  laws _ :=
    { transmitter := fun ⟨_, hdrives⟩ => ⟨fun h => (by cases h), fun _ => hdrives (by simp [hframe])⟩
      ladder := fun ⟨_, hdrives⟩ ⟨hsync, _, hquiet⟩ => by
        obtain ⟨-, hbusy, -⟩ := hdrives (by simp [hframe])
        exact ⟨hsync, fun h => absurd hbusy h, hquiet⟩ }

end Bus

end Sys2Proof.Machine
end

section
/-! Every command keeps the laws of buffers, bounds, role and bus: the messages received, the decisions under way, and the step. -/

namespace Sys2Proof.Machine

-- One theorem after another: each waiting elaboration holds a thread with memory of its own.
set_option Elab.async false

/-- Every law of buffers, bounds, role and bus that holds of `s` between two steps holds of `t`. -/
def State.KeepsSound (s t : State) : Prop := s.Keeps s.ledger t t.ledger

/-- The buffer a DATA_OUT being received is written into. -/
def DataOutMode.bufs : DataOutMode → List BufNo
  | .into b => [b]
  | .stale | .overrun => []

section Commands

variable {s t u : State} {l : Ledger}

/-- What does not change keeps the laws. -/
theorem State.KeepsSound.refl (s : State) : s.KeepsSound s := State.Keeps.refl s s.ledger

/-- One change after another keeps the laws. -/
theorem State.KeepsSound.trans (h : s.KeepsSound t) (h' : t.KeepsSound u) : s.KeepsSound u := State.Keeps.trans h h'

/-- What spares the laws keeps them. -/
theorem State.Spares.sound (h : s.Spares t) : s.KeepsSound t := h.keeps

/-! ## The receiver (R149) -/

/-- What a body is written into is its mode's buffer (R69). -/
theorem Receiver.buffer_body (h : LinkHeader) (got : List Byte) (m : DataOutMode) : (Receiver.body h got m).buffer = m.bufs := by
  cases m <;> rfl

/-- At a header's place nothing is being written (R149). -/
theorem State.buffer_of_awaitsHeader {bytes : List Byte} (h : s.awaitsHeader bytes = true) : s.cl.receiver.buffer = [] := by
  rcases (s.awaitsHeader_iff bytes).1 h with h | ⟨got, h, -⟩ <;> rw [h] <;> rfl

/-- Between messages the ledger has no buffer being written. -/
theorem State.ledger_unwritten (h : s.cl.receiver.buffer = []) : s.ledger = ⟨[], [], s.holds⟩ := by
  rw [State.ledger, h]

/-- The receiver goes from one place to another without a buffer at either (R149). -/
theorem State.KeepsSound.setReceiver (r : Receiver) (hold : s.cl.receiver.buffer = []) (hnew : r.buffer = []) :
    s.KeepsSound { s with cl.receiver := r } := by
  have same : s.Keeps ⟨[], [], s.holds⟩ { s with cl.receiver := r } ⟨[], [], s.holds⟩ := {}
  rw [State.KeepsSound, State.ledger_unwritten hold, State.ledger_unwritten (s := { s with cl.receiver := r }) hnew]
  exact same

/-- A header that is not good leaves the receiver at a header's place (R149). -/
theorem rescan_buffer (bytes : List Byte) : (rescan bytes).buffer = [] := by
  unfold rescan
  split <;> rfl

/-- The buffer that a header takes is the oldest OPEN one (R69). -/
theorem State.oldestOpen_of_mode {b : BufNo} (h : s.dataOutMode = .into b) : s.oldestOpen = some b := by
  unfold State.dataOutMode at h
  split at h
  · cases h
  · split at h
    case h_1 c hc => cases h; exact hc
    case h_2 => cases h

/-- A good header received (R69, R149, R155). -/
theorem State.KeepsSound.receiveHeader {bytes : List Byte} (ha : s.awaitsHeader bytes = true) (h : LinkHeader) (arrived : List Byte) :
    s.KeepsSound (s.receiveHeader h arrived) := by
  have unwritten := State.buffer_of_awaitsHeader ha
  unfold State.receiveHeader
  split
  case isFalse => exact .setReceiver _ unwritten rfl
  case isTrue =>
    simp only [State.receiveDataOut]
    cases hm : s.dataOutMode with
    | stale => exact .setReceiver _ unwritten rfl
    | overrun => exact .setReceiver _ unwritten rfl
    | into b =>
      rw [State.KeepsSound, State.ledger_unwritten unwritten]
      exact (State.Keeps.takeBuffer (State.oldestOpen_of_mode hm) [] s.holds).trans {}

/-! ## DATA_OUT (R69, R155, R156) -/

/-- The body written into its buffer (R69). -/
theorem State.Spares.storeBody (h : s.Spares t) (m : DataOutMode) (body : List Byte) : s.Spares (t.storeBody m body) := by
  unfold State.storeBody
  split <;> exact h.same

/-- A refusal (R157). -/
theorem State.Spares.refuse (h : s.Spares t) (cause : Nat) (value : Byte) : s.Spares (t.refuse cause value) :=
  (h.count _).raiseAlarm _ _

/-- The lost messages' buffers freed and the sequence moved on (R70, R156). -/
theorem State.Spares.acceptSequence (h : s.Spares t) (tag : Byte) (lost : Nat) : s.Spares (t.acceptSequence tag lost) :=
  (h.freeLost lost).same

section Ended

variable (hend : s.cl.receiver.buffer = []) (tag : Byte)

include hend

/-- A DATA_OUT refused by the sequence check (R69, R156). -/
theorem State.Keeps.refuseSequence (b : BufNo) (cause : Nat) :
    s.Keeps ⟨[], [b], s.holds⟩ (s.refuseSequence b cause tag) (s.refuseSequence b cause tag).ledger := by
  have reopened := State.Keeps.reopenBuffer (s := s) b [] s.holds
  have ledger : (s.setReserve b .opened).ledger = ⟨[], [], s.holds⟩ := State.ledger_unwritten hend
  rw [← ledger] at reopened
  exact reopened.trans ((State.Spares.refl _).refuse cause tag).keeps

/-- A card decision started on the frame just accepted (R41, R69). -/
theorem State.Keeps.startHeld (b : BufNo) (body : List Byte) :
    s.Keeps ⟨[], [b], s.holds⟩ ((s.setReserve b .held).startCard b body) ((s.setReserve b .held).startCard b body).ledger := by
  let heldState : State := s.setReserve b .held
  have starts : heldState.startCard b body =
      heldState.endLeading (s.fe.card ++ [⟨some b, heldState.firstStage body⟩]) := heldState.endLeading_setCard _ _
  have held := State.Keeps.holdBuffer (s := s) b [] s.holds
  have decided := State.Keeps.decisions (s := heldState) (s.fe.card ++ [⟨some b, heldState.firstStage body⟩])
    (held := s.holds ++ [b]) (by simp [State.holds])
  rw [show heldState.cl.receiver.buffer = [] from hend] at decided
  rw [show (s.setReserve b .held).startCard b body = _ from starts]
  exact held.trans decided

/-- A DATA_OUT of good check taken by its mode (R155, R156). -/
theorem State.Keeps.takeDataOut (m : DataOutMode) (body : List Byte) :
    s.Keeps ⟨[], m.bufs, s.holds⟩ (s.takeDataOut tag m body) (s.takeDataOut tag m body).ledger := by
  have ledger := State.ledger_unwritten hend
  unfold State.takeDataOut
  cases m with
  | stale => exact ledger ▸ (State.Spares.refl s).keeps
  | overrun => exact ledger ▸ ((State.Spares.refl s).refuse 2 tag).keeps
  | into b =>
    dsimp only
    split
    case h_1 cause _ => exact .refuseSequence hend tag b cause
    case h_2 lost _ =>
      have accepted := (State.Spares.refl s).acceptSequence tag lost
      have holds : (s.acceptSequence tag lost).holds = s.holds := by rw [State.holds, accepted.card]; rfl
      have started := State.Keeps.startHeld (s := s.acceptSequence tag lost) (by rw [accepted.receiver]; exact hend) b body
      rw [holds] at started
      exact (accepted.laws _).trans started

/-- A DATA_OUT of failed check taken by its mode (R155, R156). -/
theorem State.Keeps.takeBadDataOut (m : DataOutMode) :
    s.Keeps ⟨[], m.bufs, s.holds⟩ (s.takeBadDataOut tag m) (s.takeBadDataOut tag m).ledger := by
  have ledger := State.ledger_unwritten hend
  unfold State.takeBadDataOut
  cases m with
  | stale => exact ledger ▸ ((State.Spares.refl s).count _).keeps
  | overrun => exact ledger ▸ ((State.Spares.refl s).refuse 2 tag).keeps
  | into b =>
    dsimp only
    split
    case h_1 cause _ => exact .refuseSequence hend tag b cause
    case h_2 lost _ =>
      have accepted := (State.Spares.refl s).acceptSequence tag lost
      have released := State.Keeps.releaseWriting (s := s.acceptSequence tag lost) b [] s.holds
      have ends : ((s.acceptSequence tag lost).releaseReserve b).ledger = ⟨[], [], s.holds⟩ := by
        simp only [State.ledger, State.holds, State.releaseReserve_receiver, State.releaseReserve_fe, accepted.receiver, accepted.card,
          hend]
      rw [← ends] at released
      exact ((accepted.laws _).trans released).trans ((State.Spares.refl _).count _).keeps

end Ended

/-- A good message that is no DATA_OUT, or one that stores nothing (R149, R150). -/
theorem State.KeepsSound.goodMessage (hwriting : s.cl.receiver.buffer = []) : s.KeepsSound s.goodMessage := by
  have ends : s.goodMessage.ledger = ⟨[], [], s.holds⟩ := by
    rw [State.ledger, State.holds, s.goodMessage_receiver, s.goodMessage_fe]; rfl
  rw [State.KeepsSound, State.ledger_unwritten hwriting, ends]
  exact .goodMessage

/-- DATA_OUT of good check (R150, R155, R156). -/
theorem State.KeepsSound.dataOut {h : LinkHeader} {got : List Byte} {m : DataOutMode} (hreceiver : s.cl.receiver = .body h got m)
    (body : List Byte) : s.KeepsSound ((s.goodMessage.storeBody m body).takeDataOut h.tag m body) := by
  have stored := (State.Spares.refl s.goodMessage).storeBody m body
  have unwritten : (s.goodMessage.storeBody m body).cl.receiver.buffer = [] := by
    rw [stored.receiver, s.goodMessage_receiver]; rfl
  have holds : (s.goodMessage.storeBody m body).holds = s.holds := by
    rw [State.holds, stored.card, s.goodMessage_fe]; rfl
  have taken := State.Keeps.takeDataOut unwritten h.tag m body
  rw [holds] at taken
  rw [State.KeepsSound, State.ledger, hreceiver, Receiver.buffer_body]
  exact State.Keeps.goodMessage.trans ((stored.laws _).trans taken)

/-- DATA_OUT of failed check (R150, R155, R156). -/
theorem State.KeepsSound.badDataOut {h : LinkHeader} {got : List Byte} {m : DataOutMode} (hreceiver : s.cl.receiver = .body h got m) :
    s.KeepsSound (State.takeBadDataOut { s with cl.receiver := .header [] } h.tag m) := by
  have taken := State.Keeps.takeBadDataOut (s := { s with cl.receiver := .header [] }) rfl h.tag m
  have read : s.Keeps ⟨[], m.bufs, s.holds⟩ { s with cl.receiver := .header [] } ⟨[], m.bufs, s.holds⟩ := {}
  rw [State.KeepsSound, State.ledger, hreceiver, Receiver.buffer_body]
  exact read.trans taken

/-! ## The decisions under way -/

/-- The learn of a decision (R8). -/
theorem State.Spares.issueLearn (h : s.Spares t) (e : Eid) (z : Zone) (p : Place) : s.Spares (t.issueLearn e z p) := by
  have written : s.Spares { t with lt := putBucket t.lt (bucketOf e) (learnBucket (bucketFor t.lt e) e z p) } := h.same
  unfold State.issueLearn
  split
  case isFalse => exact h
  case isTrue =>
    simp only [State.learnClaim]
    split
    · exact written.count _
    · exact written.count _
    · exact written
    · split
      · exact (written.count _).notify _ _
      · exact written.count _
    · split
      · exact written.count _
      · exact written

/-- The hand-over of a card frame leaves the receiver. -/
theorem State.handOverCard_receiver (s : State) (d : CardDecision) (f : CardFrame) (dest : Dest) :
    (s.handOverCard d f dest).cl.receiver = s.cl.receiver := by
  unfold State.handOverCard State.endCard State.addTx
  (repeat' split) <;> simp

/-- BTQ_HANDOVER: the oldest decision gives up its hold, and those behind it whose turn has come end (R39, R51). -/
theorem State.KeepsSound.btqHandover {d : CardDecision} {ds : List CardDecision} (hd : s.fe.card = d :: ds) (f : CardFrame)
    (dest : Dest) : s.KeepsSound ((s.handOverCard d f dest).endLeading ds) := by
  have holds : s.holds = d.hold.toList ++ ds.filterMap (·.hold) := by
    rw [State.holds, hd]
    cases h : d.hold <;> simp [h]
  have ended := State.Keeps.decisions (s := s.handOverCard d f dest) ds rfl
  rw [State.handOverCard_receiver] at ended
  rw [State.KeepsSound, State.ledger, holds]
  exact (State.Keeps.handOverCard d f dest [] s.cl.receiver.buffer _).trans ended

/-! ## Every command -/

/-- A command keeps the laws where its effect does. -/
theorem takeEvent_keepsSound {e : Option State} (h : takeEvent s e = .next t) (he : ∀ u, e = some u → s.KeepsSound u) :
    s.KeepsSound t :=
  takeEvent_keeps s (s.KeepsSound ·) e t (.refl s) he
    (fun u hu => hu.trans ((State.Spares.refl u).arbitrate).sound) h

/-- An effect under a condition. -/
theorem keepsSound_guarded {c : Prop} [Decidable c] {v : State} (h : c → s.KeepsSound v) :
    ∀ u, (if c then some v else none) = some u → s.KeepsSound u := by
  intro u hu
  split at hu
  case isTrue hc => cases hu; exact h hc
  case isFalse => cases hu

/-- An effect under a condition that spares the laws. -/
theorem spares_guarded {c : Prop} [Decidable c] {v : State} (h : c → s.Spares v) :
    ∀ u, (if c then some v else none) = some u → s.KeepsSound u := keepsSound_guarded fun hc => (h hc).sound

/-- A management request. -/
theorem execute_keepsSound {c : ReqCode} {effect : State → List Byte → State} (h : takeEvent s (s.execute c effect) = .next t)
    (he : ∀ args, s.KeepsSound (effect s args)) : s.KeepsSound t := by
  refine takeEvent_keepsSound h fun u hu => ?_
  unfold State.execute at hu
  split at hu
  · cases hu
  · refine keepsSound_guarded (fun _ => ?_) u hu
    split
    · exact he _
    · exact ((State.Spares.refl s).answer _ _).sound

/-- LEARN (R45, R56). -/
theorem execLearn_keepsSound (side : Side) (i : Nat) (h : execLearn side i s = .next t) : s.KeepsSound t := by
  refine takeEvent_keepsSound h fun u hu => ?_
  cases side with
  | card =>
    simp only [State.cardLearn] at hu
    split at hu
    case h_2 => cases hu
    case h_1 d hd =>
      split at hu
      case h_1 f _ =>
        cases hu
        have learned := (State.Spares.refl s).issueLearn f.srcEid f.zone .here
        exact learned.sound.trans (.putCardStage (by rw [learned.card]; exact hd) _)
      all_goals cases hu
  | backplane =>
    simp only [State.backplaneLearn] at hu
    (repeat' split at hu) <;> cases hu
    exact (((State.Spares.refl s).issueLearn _ _ _).same).sound

/-- LOOKUP (R47, R48, R50, R59). -/
theorem execLookup_keepsSound (side : Side) (i : Nat) (h : execLookup side i s = .next t) : s.KeepsSound t := by
  refine takeEvent_keepsSound h fun u hu => ?_
  cases side with
  | card =>
    simp only [State.cardLookup] at hu
    split at hu
    case h_2 => cases hu
    case h_1 d hd =>
      split at hu <;> cases hu
      all_goals exact .putCardStage hd _
  | backplane =>
    simp only [State.backplaneLookupStep] at hu
    (repeat' split at hu) <;> cases hu
    exact ((State.Spares.refl s).same).sound

/-- At the end of a message other than a DATA_OUT nothing is being written (R149). -/
theorem State.buffer_of_endingMessage {body : List Byte} {p : LinkHeader → Bool} (h : (s.endingMessage body).any p = true) :
    s.cl.receiver.buffer = [] := by
  cases hheader : s.endingMessage body with
  | none => rw [hheader] at h; cases h
  | some header =>
    obtain ⟨got, hreceiver, -⟩ := (s.endingMessage_eq_some body header).1 hheader
    rw [hreceiver]
    rfl

end Commands

end Sys2Proof.Machine
end

section
/-! The laws of buffers, bounds, role and bus over every command and every step. -/

namespace Sys2Proof.Machine

-- One theorem after another: each waiting elaboration holds a thread with memory of its own.
set_option Elab.async false

variable (s : State)

/-- BUCKET_VISIT's visit spares the laws (R30). -/
theorem State.Spares.visit {j : Job} (hj : s.tw.job = some j) : s.Spares (s.visit j) := by
  rw [s.visit_eq j hj]
  cases j with
  | internalFlush | managementFlush => exact .of_bare rfl
  | sweep => exact ((State.Spares.refl s).countN .agedOut _).same

/-- A response's end (R165, R173). -/
theorem State.KeepsSound.endResponse (r : Response) (straps : Station) : s.KeepsSound (s.endResponse r straps) := by
  have sent : s.Spares s.messageSent := .of_bare rfl
  unfold State.endResponse
  split
  · split
    · exact .warmRestart straps
    · exact (sent.same : s.Spares s.messageSent.finishRequest).sound
    all_goals exact sent.sound
  · exact sent.sound

/-- A reset (R183). -/
theorem State.KeepsSound.of_reset (asserted : Bool) (n : Station) (pending : List Instr) :
    s.KeepsSound
      { State.reset with resetAsserted := asserted, cf := { State.reset.cf with station := n }, pending := pending } :=
  State.Keeps.of_restart ⟨_, rfl⟩ rfl ⟨_, rfl⟩ rfl ⟨_, rfl⟩

/-- Every command keeps the laws. -/
theorem exec_keepsSound (c : Instr) (t : State) (h : exec c s = .next t) : s.KeepsSound t := by
  have same := State.Spares.refl s
  cases c with
  | deviceReset => cases h; exact .of_reset s _ _ _
  | resetRelease straps => cases h; exact .of_reset s _ _ _
  | configByteRead answer => exact takeEvent_keepsSound h (spares_guarded fun hop => same.byteRead hop answer)
  | mediumGoesIdle truncated =>
    refine takeEvent_keepsSound h (spares_guarded fun ⟨_, hoff⟩ => ?_)
    refine (State.Spares.countCut s truncated).trans (.goIdle ?_ .empty)
    unfold State.countCut
    (repeat' split) <;> exact hoff
  | mediumLeavesIdle => exact takeEvent_keepsSound h (spares_guarded fun _ => .occupy s .carrier)
  | rungStart =>
    refine takeEvent_keepsSound h fun u hu => ?_
    split at hu
    case isTrue hc =>
      obtain ⟨k, hk, rfl⟩ := Option.map_eq_some_iff.1 hu
      refine (State.Spares.beginRung hc.1 (fun hbusy => ?_) k).sound
      rw [hbusy] at hk
      cases hk
    case isFalse => cases hu
  | quietCountExpiry =>
    refine takeEvent_keepsSound h (spares_guarded fun ⟨hdue, _⟩ => ?_)
    have hop : s.cf.opState = .syncing := by
      simp only [State.quietDue, Bool.and_eq_true, beq_iff_eq] at hdue
      exact hdue.1
    have counted : s.Spares { s with bp.quietCount := quietSlots } :=
      { laws := fun _ => { ladder := fun _ ⟨hsync, hidle, _⟩ => ⟨hsync, hidle, le_rfl⟩ } }
    rw [← State.gainSync_syncing (s := { s with bp.quietCount := quietSlots }) hop]
    exact counted.gainSync
  | ownHeaderSent => exact takeEvent_keepsSound h (spares_guarded fun _ => same.same)
  | controlFrameSent =>
    refine takeEvent_keepsSound h (spares_guarded fun ⟨hframe, hflight⟩ => ?_)
    exact (State.Spares.endControl (by simp [hframe]) hflight s.eu rfl rfl fun hk => hk.2.1).count _
  | dataFrameSent =>
    refine takeEvent_keepsSound h fun u hu => ?_
    split at hu
    case isFalse => cases hu
    case isTrue hc =>
      split at hu
      case h_1 r marked hslot =>
        cases hu
        exact ((State.Spares.pushed fun l => .endData hc.2 hslot).count .txData).sound
      case h_2 => cases hu
      case h_3 => cases hu
  | collision => exact takeEvent_keepsSound h (spares_guarded fun hframe => (State.Spares.collide hframe 31).count _)
  | jamEnd => exact takeEvent_keepsSound h (spares_guarded fun hjam => .endJam hjam)
  | jamSeen =>
    refine takeEvent_keepsSound h (spares_guarded fun _ => ?_)
    have seen := State.Spares.occupy s .collision
    split
    · refine .gainSync (.count ?_ .jamsSeen)
      exact seen.same
    · exact seen
  | headerReceived header =>
    refine takeEvent_keepsSound h (spares_guarded fun hwatches => same.takeHeader ?_ header)
    simp only [State.watches, Bool.and_eq_true, beq_iff_eq] at hwatches
    exact hwatches.1.1.2
  | frameReceived rest =>
    refine takeEvent_keepsSound h fun u hu => ?_
    split at hu
    case h_1 header _ =>
      cases hu
      have counted : s.Spares (State.count { s with bp.assembly := .waitIdle } (classify header rest).counter) :=
        .count (t := { s with bp.assembly := .waitIdle }) same.same _
      exact (counted.handOn _).sound
    all_goals cases hu
  | announceTimerExpiry =>
    refine takeEvent_keepsSound h fun u hu => ?_
    split at hu
    · cases hu
    · cases hu
      exact same.agePeers.sound
  | listenTimerExpiry => exact takeEvent_keepsSound h (spares_guarded fun hc => same.endListening hc.1)
  | dataOutHeader header arrived => exact takeEvent_keepsSound h (keepsSound_guarded fun ha => .receiveHeader ha header arrived)
  | dataOut body =>
    refine takeEvent_keepsSound h fun u hu => ?_
    split at hu
    case h_1 hreceiver => exact keepsSound_guarded (fun _ => .dataOut hreceiver body) u hu
    all_goals cases hu
  | request tag body =>
    refine takeEvent_keepsSound h (keepsSound_guarded fun hending => ?_)
    have heard := State.KeepsSound.goodMessage (State.buffer_of_endingMessage hending)
    exact heard.trans ((State.Spares.refl _).offerRequest tag body).sound
  | receiveReady total =>
    refine takeEvent_keepsSound h (keepsSound_guarded fun hending => ?_)
    have heard := State.KeepsSound.goodMessage (State.buffer_of_endingMessage hending)
    exact heard.trans ((State.Spares.refl _).takeAccept total).sound
  | idle =>
    exact takeEvent_keepsSound h (keepsSound_guarded fun hending => .goodMessage (State.buffer_of_endingMessage hending))
  | unusableMessage type length =>
    refine takeEvent_keepsSound h fun u hu => ?_
    split at hu
    case h_1 header got hreceiver =>
      refine keepsSound_guarded (fun _ => ?_) u hu
      exact (State.KeepsSound.goodMessage (by rw [hreceiver]; rfl)).trans ((State.Spares.refl _).count .linkMsgErr).sound
    all_goals cases hu
  | messageBadCheck =>
    refine takeEvent_keepsSound h fun u hu => ?_
    split at hu
    case h_1 hreceiver => exact keepsSound_guarded (fun _ => .badDataOut hreceiver) u hu
    case h_2 header got hreceiver =>
      refine keepsSound_guarded (fun _ => ?_) u hu
      exact (State.KeepsSound.setReceiver (.header []) (by rw [hreceiver]; rfl) rfl).trans
        ((State.Spares.refl _).count .linkMsgErr).sound
    all_goals cases hu
  | linkHeaderRejected bytes =>
    refine takeEvent_keepsSound h (keepsSound_guarded fun ha => ?_)
    exact .setReceiver _ (State.buffer_of_awaitsHeader ha) (rescan_buffer bytes)
  | linkHoldExpiry straps => exact takeEvent_keepsSound h (keepsSound_guarded fun _ => .linkDown straps)
  | idleTimerExpiry => exact takeEvent_keepsSound h (spares_guarded fun _ => same.same)
  | dataInEnd =>
    refine takeEvent_keepsSound h fun u hu => ?_
    split at hu <;> cases hu
    exact (same.endDataIn _).sound
  | responseEnd straps =>
    refine takeEvent_keepsSound h fun u hu => ?_
    split at hu <;> cases hu
    exact .endResponse s _ straps
  | statusEnd =>
    refine takeEvent_keepsSound h fun u hu => ?_
    split at hu <;> cases hu
    split
    · exact (same.same : s.Spares { s.messageSent with cl.restartWindow := false }).sound
    · exact (same.same : s.Spares s.messageSent).sound
  | messageEnd => exact takeEvent_keepsSound h (spares_guarded fun _ => same.same)
  | readEntry => exact execute_keepsSound h fun args => (same.doReadEntry args).sound
  | readBucket => exact execute_keepsSound h fun args => (same.doReadBucket args).sound
  | addStatic => exact execute_keepsSound h fun args => (same.doAddStatic args).sound
  | remove => exact execute_keepsSound h fun args => (same.doRemove args).sound
  | flush => exact execute_keepsSound h fun args => (same.doFlush args).sound
  | readPeer => exact execute_keepsSound h fun args => (same.doReadPeer args).sound
  | readStatus => exact execute_keepsSound h fun _ => (same.answer _ _).sound
  | readCounters => exact execute_keepsSound h fun args => (same.doReadCounters args).sound
  | ackEvent => exact execute_keepsSound h fun args => (same.doAckEvent args).sound
  | restart straps =>
    refine execute_keepsSound h fun _ => ?_
    unfold State.doRestart
    split
    · exact .warmRestart straps
    · exact (same.respond _ _ _).sound
  | badRequest =>
    refine takeEvent_keepsSound h fun u hu => ?_
    split at hu
    · exact spares_guarded (fun _ => same.answer _ _) u hu
    · cases hu
  | sweepTimerExpiry =>
    refine takeEvent_keepsSound h fun u hu => ?_
    split at hu
    · cases hu
    · cases hu
      exact (same.same : s.Spares { s with tw := _ }).sound
  | bucketVisit =>
    refine takeEvent_keepsSound h fun u hu => ?_
    obtain ⟨j, hj, rfl⟩ := Option.map_eq_some_iff.1 hu
    exact ((State.Spares.visit s hj).advanceCursor).sound
  | learn side i => exact execLearn_keepsSound side i h
  | lookup side i => exact execLookup_keepsSound side i h
  | btqHandover =>
    refine takeEvent_keepsSound h fun u hu => ?_
    split at hu
    case h_2 => cases hu
    case h_1 d ds hd =>
      split at hu <;> cases hu
      exact .btqHandover hd _ _
  | deliveryHandover =>
    refine takeEvent_keepsSound h fun u hu => ?_
    split at hu
    case h_2 => cases hu
    case h_1 d ds _ =>
      split at hu
      case h_1 f _ =>
        cases hu
        have ended : s.Spares (State.settleBackplane { s.handOverDelivery d.overtaken f with fe.backplane := ds }) :=
          (same.handOverDelivery d.overtaken f).same
        exact ended.sound
      all_goals cases hu

/-- Every step keeps the laws. -/
theorem step_keepsSound (t : State) (h : step s = .next t) : s.KeepsSound t := by
  unfold step at h
  split at h
  · cases h
    exact (State.Spares.passSlot s).sound
  case h_2 c rest _ =>
    have taken : s.Spares { s with pending := rest } := .of_bare rfl
    exact taken.sound.trans (exec_keepsSound _ c t h)

/-- Settles O53: between two steps nothing is on its way, and the ledger is the receiver's buffer and the decisions' holds. -/
theorem poolStaysWhole : Obligations.PoolStaysWhole := by
  intro s t h hwhole
  have keeps := step_keepsSound s t h
  obtain ⟨wholeBefore, matchesBefore⟩ := s.pool_iff
  obtain ⟨wholeAfter, matchesAfter⟩ := t.pool_iff
  have whole := wholeBefore.1 hwhole
  exact ⟨wholeAfter.2 (keeps.whole whole), fun hm => matchesAfter.2 (keeps.matched whole (matchesBefore.1 hm))⟩

/-- Settles O54: each bound is kept by itself. -/
theorem boundsAreKept : Obligations.BoundsAreKept := by
  intro s t h
  have keeps := step_keepsSound s t h
  exact ⟨keeps.depths, keeps.attempts, keeps.reserve, keeps.events⟩

/-- Settles O55: what a role forbids is kept with the law of the role itself. -/
theorem roleStaysSound : Obligations.RoleStaysSound := by
  intro s t h hrole
  have keeps := step_keepsSound s t h
  exact ⟨keeps.role hrole, keeps.nothing hrole, keeps.election hrole⟩

/-- Settles O57: the ladder's law is kept with the transmitter's. -/
theorem busStaysSound : Obligations.BusStaysSound := by
  intro s t h htransmitter
  have keeps := step_keepsSound s t h
  exact ⟨keeps.transmitter htransmitter, keeps.ladder htransmitter⟩

end Sys2Proof.Machine
end

section
/-! READ_PEER and READ_STATUS: the station a byte names, the peer's record and the status record (R81, R130, R170). -/

namespace Sys2Proof.Machine

variable (s : State)

/-! ## The station that the argument names -/

/-- The station a byte names. -/
theorem stationOfByte_eq_some (b : Byte) (m : Station) : stationOfByte b = some m ↔ b.toNat = m.val := by
  unfold stationOfByte
  split <;> simp [Fin.ext_iff]; omega

/-- A byte above 31 names no station. -/
theorem stationOfByte_eq_none (b : Byte) : stationOfByte b = none ↔ 31 < b.toNat := by
  unfold stationOfByte
  split <;> simp <;> omega

/-- A station's code is the byte that names it. -/
theorem byteOf_of_toNat (b : Byte) (m : Station) (h : b.toNat = m.val) : byteOf m.val = b := by
  rw [← h, byteOf, BitVec.ofNat_toNat, BitVec.setWidth_eq]

/-! ## READ_PEER -/

/-- READ_PEER's execution. -/
theorem exec_readPeer : exec .readPeer s = takeEvent s (s.execute .readPeer State.doReadPeer) := rfl

/-- READ_PEER of no station or of the own one is refused (R170). -/
theorem State.doReadPeer_refused (n : Byte) (h : 31 < n.toNat ∨ n.toNat = s.cf.station.val) :
    s.doReadPeer [n] = s.answer .badArgument [] := by
  rcases h with h | h
  · simp only [State.doReadPeer, (stationOfByte_eq_none n).2 h]
  · simp only [State.doReadPeer, (stationOfByte_eq_some n _).2 h, if_true]

/-- READ_PEER of an absent peer answers NOT_FOUND (R170). -/
theorem State.doReadPeer_absent (n : Byte) (m : Station) (hn : n.toNat = m.val) (hm : m ≠ s.cf.station)
    (h : s.pt.peers[m] = none) : s.doReadPeer [n] = s.answer .notFound [] := by
  simp only [State.doReadPeer, (stationOfByte_eq_some n m).2 hn, if_neg hm, h]

/-- READ_PEER of a present peer answers its record (R170). -/
theorem State.doReadPeer_present (n : Byte) (m : Station) (hn : n.toNat = m.val) (hm : m ≠ s.cf.station) (p : Peer)
    (h : s.pt.peers[m] = some p) : s.doReadPeer [n] = s.answer .ok (peerRecord m p) := by
  simp only [State.doReadPeer, (stationOfByte_eq_some n m).2 hn, if_neg hm, h]

/-! ## READ_STATUS -/

/-- READ_STATUS's execution. -/
theorem exec_readStatus :
    exec .readStatus s = takeEvent s (s.execute .readStatus fun t _ => t.answer .ok t.statusRecord) := rfl

/-- A switch weighted as a bit of a byte. -/
theorem mul_toNat_eq_ite (k : Nat) (b : Bool) : k * b.toNat = if b then k else 0 := by
  cases b <;> simp

/-- The alarm byte, one bit for each alarm (R130). -/
theorem AlarmSet.byte_eq (a : AlarmSet) :
    a.byte =
      BitVec.ofNat 8 ((if a.dupStation then 1 else 0) + (if a.dualActive then 2 else 0) +
        (if a.configFault then 4 else 0) + if a.linkProtocol then 8 else 0) := by
  have dup : a.dupStation.toNat = if a.dupStation then 1 else 0 := by rw [← mul_toNat_eq_ite, Nat.one_mul]
  simp only [AlarmSet.byte, dup, mul_toNat_eq_ite]
  rfl

/-- The code of the job that runs, job by job (R130; a management flush: log 23). -/
theorem jobCode_eq (j : Option Job) :
    jobCode j =
      match j with | some (.internalFlush _) => 1 | some .sweep => 3 | some (.managementFlush _ _) | none => 0 := by
  cases j with
  | none => rfl
  | some j => cases j <;> rfl

/-- Settles O43: READ_PEER by its argument and the peer's entry, READ_STATUS field by field. -/
theorem peerAndStatusReads : Obligations.PeerAndStatusReads := by
  intro s op tag n hr hst hd answered stationByte
  constructor
  · intro hcur hl hc
    have allowed : requestAllowed .readPeer op = true := by simp [requestAllowed, hl, hc]
    have run : exec .readPeer s = .next (s.doReadPeer [n]).arbitrate := by
      rw [exec_readPeer, s.execute_allowed _ _ op _ hst hcur rfl allowed]
      exact takeEvent_some s _ hr
    refine ⟨fun h => ?refused, fun m hn hm => ⟨fun h => ?absent, fun p h => ?present⟩⟩
    case refused =>
      rw [run, s.doReadPeer_refused n h, s.answer_made _ _ _ hcur hd]
      rfl
    case absent =>
      rw [run, s.doReadPeer_absent n m hn hm h, s.answer_made _ _ _ hcur hd]
      rfl
    case present =>
      rw [run, s.doReadPeer_present n m hn hm p h, s.answer_made _ _ _ hcur hd, peerRecord, byteOf_of_toNat n m hn]
      rfl
  · intro hcur
    have run : exec .readStatus s = .next (s.answer .ok s.statusRecord).arbitrate := by
      rw [exec_readStatus, s.execute_allowed _ _ op _ hst hcur rfl rfl]
      exact takeEvent_some s _ hr
    rw [run, s.answer_made _ _ _ hcur hd, State.statusRecord, AlarmSet.byte_eq, mul_toNat_eq_ite, jobCode_eq]
    rfl

end Sys2Proof.Machine
end

section
/-! The class of a frame that ends (R124), and what it does where it is not handed on (R83, R124, R143). -/

namespace Sys2Proof.Machine

/-! ## The class of a frame (R122 to R124) -/

section Class

variable {h : Vector Byte 9} {rest : List Byte}

/-- A frame whose check fails is a frame error (R124 step 3). -/
theorem classify_frameError (hcheck : ¬frameCheckPasses h rest = true) : classify h rest = .frameError := if_neg hcheck

/-- A good ANNOUNCE (R124 step 5). -/
theorem classify_goodAnnounce {a : Announce} (hcheck : frameCheckPasses h rest = true) (hkind : frameKind h = 1)
    (ha : announceOfBody (rest.take (frameLength h)) = some a) : classify h rest = .goodAnnounce (frameSource h) a := by
  simp only [classify, hcheck, hkind, ha, if_true]

/-- A good TAKEOVER (R124 step 5). -/
theorem classify_goodTakeover {t : Takeover} (hcheck : frameCheckPasses h rest = true) (hkind : frameKind h = 2)
    (ht : takeoverOfBody (rest.take (frameLength h)) = some t) : classify h rest = .goodTakeover (frameSource h) t := by
  simp only [classify, hcheck, hkind, ht, if_true]

/-- An ANNOUNCE carries six bytes (R123). -/
theorem announceOfBody_eq_none {payload : List Byte} (hlen : payload.length ≠ 6) : announceOfBody payload = none := by
  unfold announceOfBody
  split
  · exact absurd rfl hlen
  · rfl

/-- A TAKEOVER carries two bytes (R123). -/
theorem takeoverOfBody_eq_none {payload : List Byte} (hlen : payload.length ≠ 2) : takeoverOfBody payload = none := by
  unfold takeoverOfBody
  split
  · exact absurd rfl hlen
  · rfl

/-- The destination station fields that name neither a station nor ALL (R124). -/
theorem frameDest_eq_none (hd : 31 < frameDestField h ∧ frameDestField h < 63) : frameDest h = none := by
  simp only [frameDest, dif_neg (show ¬frameDestField h < 32 by omega), if_neg (show frameDestField h ≠ 63 by omega)]

/-- The format errors of a DATA frame (R124 step 4). -/
theorem dataOfFrame_eq_none (payload : List Byte)
    (hbad : frameLength h = 0 ∨ 256 < frameLength h ∨ (31 < frameDestField h ∧ frameDestField h < 63) ∨
      frameSrcEid h = 0xFFFF#16) : dataOfFrame h payload = none := by
  by_cases hd : 31 < frameDestField h ∧ frameDestField h < 63
  · simp only [dataOfFrame, frameDest_eq_none hd]
  · unfold dataOfFrame
    split
    · refine if_neg fun ⟨hlow, hhigh, hsrc⟩ => ?_
      rcases hbad with h0 | hlong | hdest | heid
      · omega
      · exact absurd hhigh (Nat.not_le.2 hlong)
      · exact hd hdest
      · exact hsrc heid
    · rfl

/-- The format errors: kind 3, a DATA frame out of its ranges, an ANNOUNCE or TAKEOVER with no content (R83, R124 step 4). -/
theorem classify_formatError (hcheck : frameCheckPasses h rest = true)
    (hbad : frameKind h = 3 ∨ (frameKind h = 0 ∧ dataOfFrame h (rest.take (frameLength h)) = none) ∨
      (frameKind h = 1 ∧ announceOfBody (rest.take (frameLength h)) = none) ∨
      (frameKind h = 2 ∧ takeoverOfBody (rest.take (frameLength h)) = none)) : classify h rest = .formatError := by
  rcases hbad with hkind | ⟨hkind, hnone⟩ | ⟨hkind, hnone⟩ | ⟨hkind, hnone⟩
  · simp only [classify, hcheck, hkind, if_true]
  all_goals simp only [classify, hcheck, hkind, hnone, if_true]

end Class

/-! ## A frame that is not handed on (R83, R124, R143) -/

section Ended

variable {s : State} {h : Vector Byte 9} {rest : List Byte}

/-- A frame that is not handed on counts its counter and does nothing else (R124, R143). -/
theorem exec_frameReceived_ended (hr : s.resetAsserted = false) (hf : s.bp.assembly = .frame h)
    (hends : ∀ t : State, t.cf = s.cf → t.handOn (classify h rest) = t) :
    exec (.frameReceived rest) s =
      .next (State.arbitrate (State.count { s with bp.assembly := .waitIdle } (classify h rest).counter)) := by
  rw [exec_frameReceived hr hf, State.takeFrame]
  exact congrArg (fun t : State => Host.Outcome.next t.arbitrate) (hends _ rfl)

/-- A good frame from the own number is not handed on (R83). -/
theorem State.handOn_own {k : FrameClass} (hown : frameSource h = s.cf.station)
    (hk : (∃ f : DataFrame, f.source = frameSource h ∧ k = .goodData f) ∨ (∃ a, k = .goodAnnounce (frameSource h) a) ∨
      ∃ t, k = .goodTakeover (frameSource h) t) : s.handOn k = s := by
  rcases hk with ⟨f, hf, rfl⟩ | ⟨a, rfl⟩ | ⟨t, rfl⟩
  · exact if_pos (hf.trans hown)
  · exact if_pos hown
  · exact if_pos hown

end Ended

/-- Settles O20, by the class of the frame. -/
theorem frameIsClassed : Obligations.FrameIsClassed := by
  intro s h rest hr hf payload crc checked ended
  have finish {k : FrameClass} {c : Counter} (hk : classify h rest = k) (hc : k.counter = c)
      (hends : ∀ t : State, t.cf = s.cf → t.handOn k = t) : exec (.frameReceived rest) s = ended c := by
    subst hk hc
    exact exec_frameReceived_ended hr hf hends
  refine ⟨fun hcheck => ?frameError, fun hcheck hbad => ?formatError, fun hcheck hown hgood => ?good⟩
  case frameError => exact finish (classify_frameError (mt frameCheckPasses_iff.1 hcheck)) rfl fun _ _ => rfl
  case formatError =>
    have length : payload.length = frameLength h := by
      rw [List.length_take]
      exact Nat.min_eq_left (Nat.le_of_add_right_le hcheck.1)
    refine finish (classify_formatError (frameCheckPasses_iff.2 hcheck) ?_) rfl fun _ _ => rfl
    rcases hbad with hkind | ⟨hkind, hdata⟩ | ⟨hkind, hannounce⟩ | ⟨hkind, htakeover⟩
    · exact .inl hkind
    · exact .inr (.inl ⟨hkind, dataOfFrame_eq_none payload hdata⟩)
    · exact .inr (.inr (.inl ⟨hkind, hannounce.elim (fun hlen => announceOfBody_eq_none (by rwa [length])) id⟩))
    · exact .inr (.inr (.inr ⟨hkind, htakeover.elim (fun hlen => takeoverOfBody_eq_none (by rwa [length])) id⟩))
  case good =>
    have pass := frameCheckPasses_iff.2 hcheck
    have own (t : State) (ht : t.cf = s.cf) : frameSource h = t.cf.station := hown.trans (by rw [ht])
    rcases hgood with ⟨hkind, hlow, hhigh, hdest, hsrc⟩ | ⟨hkind, hannounce⟩ | ⟨hkind, htakeover⟩
    · obtain ⟨dest, hdest⟩ : ∃ dest, frameDest h = some dest :=
        hdest.elim (fun hlt => ⟨_, frameDest_eq_some (.inl ⟨⟨_, hlt⟩, rfl, rfl⟩)⟩)
          fun hall => ⟨_, frameDest_eq_some (.inr ⟨hall, rfl⟩)⟩
      exact finish (classify_goodData pass hkind hdest hlow hhigh hsrc) rfl fun t ht =>
        State.handOn_own (own t ht) (.inl ⟨_, rfl, rfl⟩)
    · obtain ⟨a, ha⟩ := Option.ne_none_iff_exists'.1 hannounce
      exact finish (classify_goodAnnounce pass hkind ha) rfl fun t ht => State.handOn_own (own t ht) (.inr (.inl ⟨a, rfl⟩))
    · obtain ⟨o, ho⟩ := Option.ne_none_iff_exists'.1 htakeover
      exact finish (classify_goodTakeover pass hkind ho) rfl fun t ht => State.handOn_own (own t ht) (.inr (.inr ⟨o, rfl⟩))

end Sys2Proof.Machine
end

section
/-! A good ANNOUNCE and a good TAKEOVER of another station: their notifications, flushes and reports (R84 to R88, R93, R94, R103). -/

namespace Sys2Proof.Machine

section Taken

variable (s : State) (n : Station)

/-! ## The report (R102, R103) -/

/-- Last designated after the report of a frame from station `n` (R103); it changes in RUNNING and SILENT alone (R100; log 19). -/
def State.lastAfter (s : State) (n : Station) (p : Peer) : Option Station :=
  if s.cf.opState = .running ∨ s.cf.opState = .silent then
    if p.segment = s.conf.segment ∧ p.role = .designated then some n
    else if p.segment ≠ s.conf.segment ∧ s.eu.lastDesignated = some n then none
    else s.eu.lastDesignated
  else s.eu.lastDesignated

/-- Last designated in the states in which frames are taken. -/
theorem State.lastAfter_eq {c : Config} (hc : s.cf.config = some c)
    (hop : s.cf.opState = .syncing ∨ s.cf.opState = .running ∨ s.cf.opState = .silent) (p : Peer) :
    s.lastAfter n p =
      if s.cf.opState = .syncing then s.eu.lastDesignated
      else if p.segment = c.segment ∧ p.role = .designated then some n
      else if p.segment ≠ c.segment ∧ s.eu.lastDesignated = some n then none
      else s.eu.lastDesignated := by
  rw [State.lastAfter, s.conf_eq c hc]
  by_cases hsync : s.cf.opState = .syncing
  · simp [hsync]
  · rw [if_pos (hop.resolve_left hsync), if_neg hsync]

/-- A report of a frame writes last designated. -/
theorem State.noteDesignated_frame (k : ReportKind) (hk : k ≠ .removed) (p : Peer) :
    s.noteDesignated k n (some p) = { s with eu.lastDesignated := s.lastAfter n p } := by
  have own : s.ownDesignated (some p) = true ↔ p.segment = s.conf.segment ∧ p.role = .designated := by
    simp [State.ownDesignated]
  have foreign : s.ownSegment (some p) = false ↔ p.segment ≠ s.conf.segment := by simp [State.ownSegment]
  simp only [State.noteDesignated, State.lastAfter, hk, false_or, own, foreign, and_comm (a := s.eu.lastDesignated = some n),
    ite_not]
  (repeat' split) <;> rfl

/-- The report of a frame: last designated, then the unit's acting, then segment designated (R102, R103). -/
theorem State.report_frame (k : ReportKind) (hk : k ≠ .removed) (before : Option Peer) (p : Peer) :
    s.report k n before (some p) =
      (State.actOnReport { s with eu.lastDesignated := s.lastAfter n p } k n before (some p)).refreshDesignated := by
  rw [State.report, s.noteDesignated_frame n k hk p]

/-! ## A good ANNOUNCE (R84 to R88) -/

/-- PEER_RESTART, where a known peer's role calls for it (R86). -/
theorem State.notifyPeer_known (q : Peer) (role : Role) :
    s.notifyPeer n (some q) role =
      { s with
        ec :=
          if (q.role = .standby ∨ q.role = .designated) ∧ role = .listening then
            s.ec.notify .peerRestart (stationArgument n)
          else s.ec } := by
  simp only [State.notifyPeer, showsRestart, Bool.and_eq_true, Bool.or_eq_true, beq_iff_eq]
  split <;> rfl

/-- INTERVAL_MISMATCH, for an interval other than the own one and the one announced before (R85). -/
theorem State.notifyInterval_eq (before : Option Peer) (interval : Nat) :
    s.notifyInterval n before interval =
      { s with
        ec :=
          if interval = s.conf.interval ∨ before.map (·.interval) = some interval then s.ec
          else s.ec.notify .intervalMismatch (word16 (byteOf n) (byteOf interval)) } := by
  simp only [State.notifyInterval, ne_eq, ← not_or, ite_not]
  split <;> rfl

/-- The flush of a known peer's place, where its role calls for it (R86, R87). -/
theorem State.flushPeer_known (q : Peer) (role : Role) :
    s.flushPeer n (some q) role =
      { s with
        tw :=
          if ((q.role = .standby ∨ q.role = .designated) ∧ role = .listening) ∨ (q.role = .designated ∧ role ≠ .designated) then
            s.tw.requestFlush [.station n]
          else s.tw } := by
  simp only [State.flushPeer, Option.any_some, showsDeparture, showsRestart, Bool.or_eq_true, Bool.and_eq_true, beq_iff_eq,
    bne_iff_ne]
  split <;> rfl

/-- The entry an ANNOUNCE writes, alive (R84). -/
def Announce.peer (a : Announce) : Peer := ⟨a.segment, a.role, a.preference, a.zones, a.interval, 0⟩

/-- The steps of R88, in their order, by the entry that stood before. -/
theorem State.takeAnnounce_eq (a : Announce) (before : Option Peer) (h : s.pt.peers[n] = before) :
    s.takeAnnounce n a =
      State.report
        ((((s.putPeer n (some a.peer)).notifyPeer n before a.role).notifyInterval n before a.interval).flushPeer n before a.role)
        .announce n before (some a.peer) := by
  subst h
  rfl

/-- An ANNOUNCE of a station not known before: PEER_UP, INTERVAL_MISMATCH where it applies, the report (R84, R85, R88). -/
theorem State.takeAnnounce_new (a : Announce) (h : s.pt.peers[n] = none) :
    s.takeAnnounce n a =
      (State.actOnReport
        { s with
          pt.peers := s.pt.peers.set n (some a.peer), eu.lastDesignated := s.lastAfter n a.peer
          ec :=
            if a.interval = s.conf.interval then s.ec.notify .peerUp (stationArgument n)
            else (s.ec.notify .peerUp (stationArgument n)).notify .intervalMismatch (word16 (byteOf n) (byteOf a.interval)) }
        .announce n none (some a.peer)).refreshDesignated := by
  have up : (s.putPeer n (some a.peer)).notifyPeer n none a.role =
      (s.putPeer n (some a.peer)).notify .peerUp (stationArgument n) := rfl
  have quiet (t : State) : t.flushPeer n none a.role = t := rfl
  rw [s.takeAnnounce_eq n a none h, quiet, up, State.notifyInterval_eq, State.report_frame _ n .announce nofun]
  simp only [Option.map_none, reduceCtorEq, or_false]
  rfl

/-- An ANNOUNCE of a known peer: PEER_RESTART, INTERVAL_MISMATCH and the flush of its place where they apply, the report (R85 to
R88). -/
theorem State.takeAnnounce_known (a : Announce) (q : Peer) (h : s.pt.peers[n] = some q) (told : EventUnit)
    (htold : told =
      if (q.role = .standby ∨ q.role = .designated) ∧ a.role = .listening then s.ec.notify .peerRestart (stationArgument n)
      else s.ec) :
    s.takeAnnounce n a =
      (State.actOnReport
        { s with
          pt.peers := s.pt.peers.set n (some a.peer), eu.lastDesignated := s.lastAfter n a.peer
          ec :=
            if a.interval = s.conf.interval ∨ a.interval = q.interval then told
            else told.notify .intervalMismatch (word16 (byteOf n) (byteOf a.interval))
          tw :=
            if ((q.role = .standby ∨ q.role = .designated) ∧ a.role = .listening) ∨
                (q.role = .designated ∧ a.role ≠ .designated) then
              s.tw.requestFlush [.station n]
            else s.tw }
        .announce n (some q) (some a.peer)).refreshDesignated := by
  subst htold
  rw [s.takeAnnounce_eq n a (some q) h, State.notifyPeer_known, State.notifyInterval_eq, State.flushPeer_known,
    State.report_frame _ n .announce nofun]
  simp only [Option.map_some, Option.some.injEq, eq_comm (a := q.interval)]
  rfl

/-! ## A good TAKEOVER (R93, R94) -/

/-- The flush of the previous designated, its own number, the sender's and NONE apart (R93, R94). -/
theorem State.flushPrevious_eq (previous : Option Station) :
    s.flushPrevious n previous =
      { s with
        tw := match previous with
          | none => s.tw
          | some p => if p = s.cf.station ∨ p = n then s.tw else s.tw.requestFlush [.station p] } := by
  cases previous with
  | none => rfl
  | some p =>
    simp only [State.flushPrevious, ne_eq, ← not_or, ite_not]
    split <;> rfl

/-- The sender itself counts as NONE (R94). -/
theorem namedPrevious_eq (previous : Option Station) :
    namedPrevious n previous = if previous = some n then none else previous := by
  cases previous with
  | none => rfl
  | some p => by_cases h : p = n <;> simp [namedPrevious, h]

/-- A TAKEOVER of a station with no entry flushes, and does nothing else (R93). -/
theorem State.takeTakeover_absent (o : Takeover) (h : s.pt.peers[n] = none) :
    s.takeTakeover n o = s.flushPrevious n o.previous := by
  simp only [State.takeTakeover, h]

/-- The entry a TAKEOVER writes: DESIGNATED in the segment carried, alive (R93). -/
def Takeover.peer (o : Takeover) (q : Peer) : Peer := { q with role := .designated, segment := o.segment, missed := 0 }

/-- A TAKEOVER of a known peer: its entry written, the flush, the report (R93, R94). -/
theorem State.takeTakeover_known (o : Takeover) (q : Peer) (h : s.pt.peers[n] = some q) :
    s.takeTakeover n o =
      State.report ((s.putPeer n (some (o.peer q))).flushPrevious n o.previous) (.takeover (namedPrevious n o.previous)) n
        (some q) (some (o.peer q)) := by
  simp only [State.takeTakeover, h]
  rfl

end Taken

/-! ## The frame handed on (R83, R124) -/

section Frames

/-- A good frame has ended and is counted (R124, R143). -/
def State.goodFrame (s : State) : State := State.count { s with bp.assembly := .waitIdle } .rxGood

variable {s : State} {h : Vector Byte 9} {rest : List Byte}

/-- A good ANNOUNCE of another station is counted and taken (R84, R124). -/
theorem exec_frameReceived_announce {a : Announce} (hr : s.resetAsserted = false) (hf : s.bp.assembly = .frame h)
    (hclass : classify h rest = .goodAnnounce (frameSource h) a) (hn : frameSource h ≠ s.cf.station) :
    exec (.frameReceived rest) s = .next (State.arbitrate (s.goodFrame.takeAnnounce (frameSource h) a)) := by
  rw [exec_frameReceived hr hf, State.takeFrame, hclass]
  exact congrArg (fun t : State => Host.Outcome.next t.arbitrate) (if_neg hn)

/-- A good TAKEOVER of another station is counted and taken (R93, R124). -/
theorem exec_frameReceived_takeover {o : Takeover} (hr : s.resetAsserted = false) (hf : s.bp.assembly = .frame h)
    (hclass : classify h rest = .goodTakeover (frameSource h) o) (hn : frameSource h ≠ s.cf.station) :
    exec (.frameReceived rest) s = .next (State.arbitrate (s.goodFrame.takeTakeover (frameSource h) o)) := by
  rw [exec_frameReceived hr hf, State.takeFrame, hclass]
  exact congrArg (fun t : State => Host.Outcome.next t.arbitrate) (if_neg hn)

end Frames

/-- Settles O22, by whether the sender has an entry. -/
theorem announceIsTaken : Obligations.AnnounceIsTaken := by
  intro s h rest a c hr hf hc n payload crc hlen hcrc hkind ha hn counted mismatch after last written hop
  have run := exec_frameReceived_announce hr hf
    (classify_goodAnnounce (frameCheckPasses_iff.2 ⟨hlen, hcrc⟩) hkind ha) hn
  have hlast : s.goodFrame.lastAfter n a.peer = last := s.goodFrame.lastAfter_eq n hc hop a.peer
  have figures : s.goodFrame.conf = c := s.conf_eq c hc
  constructor
  · intro habsent up ec
    rw [run, s.goodFrame.takeAnnounce_new n a habsent, hlast, figures]
    rfl
  · intro q hpresent restarted departed told ec tw
    rw [run, s.goodFrame.takeAnnounce_known n a q hpresent told rfl, hlast, figures]
    rfl

/-- Settles O23, by whether the sender has an entry. -/
theorem takeoverIsTaken : Obligations.TakeoverIsTaken := by
  intro s h rest o c hr hf hc n payload crc hlen hcrc hkind ho hn tw told
  have run := exec_frameReceived_takeover hr hf
    (classify_goodTakeover (frameCheckPasses_iff.2 ⟨hlen, hcrc⟩) hkind ho) hn
  constructor
  · intro habsent
    rw [run, s.goodFrame.takeTakeover_absent n o habsent, State.flushPrevious_eq]
    rfl
  · intro q hpresent hop after last previous
    have hlast : s.goodFrame.lastAfter n (o.peer q) = last := by
      rw [s.goodFrame.lastAfter_eq n hc hop]
      by_cases hsegment : o.segment = c.segment <;> simp [last, Takeover.peer, hsegment] <;> rfl
    rw [run, s.goodFrame.takeTakeover_known n o q hpresent, State.flushPrevious_eq, namedPrevious_eq,
      State.report_frame _ n (.takeover _) nofun, ← hlast]
    rfl

end Sys2Proof.Machine
end

section
/-! The announce timer's expiry: the peers that age and those removed, with their reports (R90 to R92, R95, R102). -/

namespace Sys2Proof.Machine

/-! ## The peers removed (R90, R91) -/

/-- An entry after an expiry, in one form: kept below a missed count of 3, and stepped (R90). -/
theorem agePeer_eq (p : Option Peer) :
    agePeer p = (p.filter fun q => decide (q.missed < 3)).map fun q => { q with missed := q.missed + 1 } := by
  cases p with
  | none => rfl
  | some q =>
    have kept : q.missed + 1 < missedLimit ↔ q.missed < 3 := Nat.succ_lt_succ_iff
    by_cases h : q.missed < 3 <;> simp [agePeer, Option.filter, kept, h]

/-- The stations an expiry removes, in rising order (R90, R91). -/
def PeerTable.gone (t : PeerTable) : List Station :=
  allStations.filter fun n => t.peers[n].any fun p => decide (3 ≤ p.missed)

/-- The removed peers' numbers. -/
theorem removedPeers_stations (t : PeerTable) : (removedPeers t).map Prod.fst = t.gone := by
  unfold removedPeers presentPeers PeerTable.gone
  induction allStations with
  | nil => rfl
  | cons n ns ih =>
    cases h : t.peers[n.val] with
    | none => simpa [h] using ih
    | some p =>
      have late : missedLimit ≤ p.missed + 1 ↔ 3 ≤ p.missed := Nat.succ_le_succ_iff
      by_cases hlate : 3 ≤ p.missed <;> simpa [h, late, hlate] using ih

/-- Each removed peer comes with its entry. -/
theorem removedPeers_entry (t : PeerTable) {x : Station × Peer} (hx : x ∈ removedPeers t) : t.peers[x.1] = some x.2 :=
  (mem_presentPeers t x.1 x.2).1 (List.mem_of_mem_filter hx)

/-! ## PEER_DOWN and the reports (R91) -/

/-- The report of a removal: the unit acts and segment designated is taken anew; last designated stays (R91, R103). -/
def State.reportGone (s : State) (n : Station) (before : Option Peer) : State :=
  (s.actOnReport .removed n before none).refreshDesignated

/-- PEER_DOWN for each removed station, in order (R91). -/
theorem State.notifyDown_eq (s : State) (xs : List (Station × Peer)) :
    s.notifyDown xs =
      { s with ec := (xs.map Prod.fst).foldl (fun e n => e.notify .peerDown (word16 0 (BitVec.ofNat 8 n))) s.ec } := by
  induction xs generalizing s with
  | nil => rfl
  | cons x xs ih => exact ih (s.notify .peerDown (stationArgument x.1))

/-- The reports of the removals, in order, with the entries as they stood (R91). -/
theorem State.reportRemoved_eq (s : State) (t : PeerTable) (xs : List (Station × Peer))
    (hxs : ∀ x ∈ xs, t.peers[x.1] = some x.2) :
    s.reportRemoved xs = (xs.map Prod.fst).foldl (fun u n => u.reportGone n t.peers[n]) s := by
  induction xs generalizing s with
  | nil => rfl
  | cons x xs ih =>
    rw [List.map_cons, List.foldl_cons, hxs x List.mem_cons_self, ← ih _ fun y hy => hxs y (List.mem_cons_of_mem x hy)]
    rfl

/-! ## What a report of a removal does (R108 to R110) -/

section Gone

variable (s : State) (n : Station) (before : Option Peer)

/-- All the unit's acting on a removal can be: a STANDBY station becomes DESIGNATED (R109, R110). -/
theorem State.actOnReport_removed_cases :
    s.actOnReport .removed n before none = s ∨
      (s.eu.role = .standby ∧ s.actOnReport .removed n before none = s.becomeDesignated) := by
  unfold State.actOnReport
  split
  case h_1 hrole =>
    split
    · exact .inr ⟨hrole, rfl⟩
    · exact .inl rfl
  all_goals exact .inl rfl

/-- The blocks that a removal's report leaves alone. -/
def State.outsideElection (s : State) : PeerTable × Loader × Table × Forwarding × Pool × BusPort × Management :=
  (s.pt, s.cf, s.lt, s.fe, s.bq, s.bp, s.me)

/-- A report of a removal leaves all but the election unit, the walker, the events and the card link's STATUS. -/
theorem State.reportGone_outsideElection : (s.reportGone n before).outsideElection = s.outsideElection := by
  have refreshed (t : State) : t.refreshDesignated.outsideElection = t.outsideElection := by
    simp [State.outsideElection]
  rw [State.reportGone, refreshed]
  rcases s.actOnReport_removed_cases n before with h | ⟨-, h⟩ <;> rw [h]
  simp [State.outsideElection, State.becomeDesignated]

/-- What a station outside STANDBY keeps through the reports of removals. -/
def State.roleWalkerEvents (s : State) : Role × Walker × EventUnit × Option Takeover :=
  (s.eu.role, s.tw, s.ec, s.eu.takeoverHolder)

/-- Outside STANDBY a report of a removal leaves role, walker, events and TAKEOVER holder (R108, R109). -/
theorem State.reportGone_roleWalkerEvents (hrole : s.eu.role ≠ .standby) :
    (s.reportGone n before).roleWalkerEvents = s.roleWalkerEvents := by
  rcases s.actOnReport_removed_cases n before with h | ⟨hstandby, -⟩
  · simp [State.reportGone, h, State.roleWalkerEvents]
  · exact absurd hstandby hrole

/-- The reports of any removals leave all but the election unit, the walker, the events and the card link's STATUS. -/
theorem State.reportsGone_outsideElection (t : PeerTable) (ns : List Station) :
    (ns.foldl (fun u n => u.reportGone n t.peers[n]) s).outsideElection = s.outsideElection := by
  induction ns generalizing s with
  | nil => rfl
  | cons n ns ih => exact (ih _).trans (s.reportGone_outsideElection n _)

/-- Outside STANDBY the reports of any removals leave role, walker, events and TAKEOVER holder. -/
theorem State.reportsGone_roleWalkerEvents (hrole : s.eu.role ≠ .standby) (t : PeerTable) (ns : List Station) :
    (ns.foldl (fun u n => u.reportGone n t.peers[n]) s).roleWalkerEvents = s.roleWalkerEvents := by
  induction ns generalizing s with
  | nil => rfl
  | cons n ns ih =>
    have kept := s.reportGone_roleWalkerEvents n t.peers[n] hrole
    have role : (s.reportGone n t.peers[n]).eu.role = s.eu.role := congrArg Prod.fst kept
    exact (ih _ (role ▸ hrole)).trans kept

end Gone

/-! ## The expiry (R90 to R92) -/

/-- ANNOUNCE_TIMER_EXPIRY of a running timer. -/
theorem exec_announceTimerExpiry (s : State) (hr : s.resetAsserted = false) (ht : s.pt.announceTimer ≠ .stopped) :
    exec .announceTimerExpiry s = .next s.agePeers.arbitrate := by
  show takeEvent s (if s.pt.announceTimer = .stopped then none else some s.agePeers) = _
  rw [if_neg ht]
  exact takeEvent_some s _ hr

/-- The peer table after an expiry (R90). -/
def PeerTable.aged (t : PeerTable) (interval : Nat) : PeerTable where
  peers := Vector.ofFn fun n => (t.peers[n].filter fun p => decide (p.missed < 3)).map fun p =>
    { p with missed := p.missed + 1 }
  announceTimer := .running interval

/-- The peers aged, PEER_DOWN for those gone and the one flush of their places (R90, R91). -/
def State.agedAndTold (s : State) : State :=
  { s with
    pt := s.pt.aged s.conf.interval, tw := s.tw.requestFlush (s.pt.gone.map .station)
    ec := s.pt.gone.foldl (fun e n => e.notify .peerDown (word16 0 (BitVec.ofNat 8 n))) s.ec }

/-- The part once the reports of the removals are made (R91). -/
def State.agedAndReported (s : State) : State :=
  s.pt.gone.foldl (fun t n => t.reportGone n s.pt.peers[n]) s.agedAndTold

/-- With none removed, the peers age and nothing else happens (R90). -/
theorem State.agedAndReported_of_none (s : State) (h : s.pt.gone = []) :
    s.agedAndReported = { s with pt := s.pt.aged s.conf.interval } := by
  rw [State.agedAndReported, State.agedAndTold, h]
  rfl

/-- The expiry: what is aged, told and reported, and the own ANNOUNCE in RUNNING (R90 to R92, R95). -/
theorem State.agePeers_eq (s : State) :
    s.agePeers =
      { s.agedAndReported with
        eu.announceHolder :=
          if s.cf.opState = .running then
            some ⟨s.conf.segment, s.agedAndReported.eu.role, s.conf.preference, s.conf.zones, s.conf.interval⟩
          else s.agedAndReported.eu.announceHolder } := by
  have places : (removedPeers s.pt).map (fun x => Place.station x.1) = s.pt.gone.map .station := by
    rw [← removedPeers_stations, List.map_map]
    rfl
  have table : vmap agePeer s.pt.peers = (s.pt.aged s.conf.interval).peers := by
    simp only [vmap, agePeer_eq, PeerTable.aged]
  have cf : s.agedAndReported.cf = s.cf :=
    congrArg (·.2.1) (s.agedAndTold.reportsGone_outsideElection s.pt s.pt.gone)
  have figures : s.agedAndReported.conf = s.conf := by rw [State.conf, cf]; rfl
  have whole : s.agePeers =
      if s.agedAndReported.cf.opState = .running then s.agedAndReported.loadAnnounce else s.agedAndReported := by
    simp only [State.agePeers, places, table, State.notifyDown_eq, removedPeers_stations,
      State.reportRemoved_eq _ s.pt _ fun _ => removedPeers_entry s.pt]
    rfl
  rw [whole, cf]
  split
  · rw [State.loadAnnounce, State.ownAnnounce, figures]
  · rfl

/-- Settles O29: the expiry as a whole, and what the reports of removals leave. -/
theorem announceTimerExpires : Obligations.AnnounceTimerExpires := by
  intro s c hr hc ht gone aged told reported
  have figures := s.conf_eq c hc
  have htold : s.agedAndTold = told := by rw [State.agedAndTold, figures]; rfl
  have hreported : s.agedAndReported = reported := by rw [State.agedAndReported, htold]; rfl
  refine ⟨?whole, fun hnone => ?none, fun hrole => ?outside, ?blocks⟩
  case whole => rw [exec_announceTimerExpiry s hr ht, s.agePeers_eq, hreported, figures]
  case none => rw [← hreported, s.agedAndReported_of_none hnone, figures]; rfl
  case outside =>
    have keeps := told.reportsGone_roleWalkerEvents hrole s.pt gone
    simp only [State.roleWalkerEvents, Prod.mk.injEq] at keeps
    exact keeps
  case blocks =>
    have keeps := told.reportsGone_outsideElection s.pt gone
    simp only [State.outsideElection, Prod.mk.injEq] at keeps
    exact keeps

end Sys2Proof.Machine
end

section
/-! The segment election's rules on the peer table as propositions: rank, the highest-ranked partner, who becomes DESIGNATED; and
with them segment designated, becoming DESIGNATED, the acting on a report and the listen period's end (R101, R102, R107 to R112,
R116 to R118). -/

namespace Sys2Proof.Machine

/-! ## Rank (R101) -/

/-- The higher preference outranks, and at one preference the lower number (R101). -/
theorem outranks_iff (p : Nat) (a : Station) (q : Nat) (b : Station) :
    outranks p a q b = true ↔ q < p ∨ (q = p ∧ a < b) := by
  rw [outranks, Bool.or_eq_true, Bool.and_eq_true, decide_eq_true_eq, decide_eq_true_eq, beq_iff_eq, eq_comm (a := p)]

/-- Of two peers at most one outranks the other. -/
theorem outranks_asymm {p q : Nat} {a b : Station} (h : outranks p a q b = true) : ¬outranks q b p a = true := by
  rw [outranks_iff, Fin.lt_def] at h ⊢
  omega

/-- The better of two is one of them. -/
theorem betterPeer_either (best : Option (Station × Peer)) (x : Station × Peer) :
    betterPeer best x = best ∨ betterPeer best x = some x := by
  unfold betterPeer
  split
  · exact .inr rfl
  · split
    · exact .inr rfl
    · exact .inl rfl

/-- The best so far stays before the same peer and before one that it outranks. -/
theorem betterPeer_stays {x z : Station × Peer} (h : z ≠ x → outranks x.2.preference x.1 z.2.preference z.1 = true) :
    betterPeer (some x) z = some x := by
  by_cases hz : z = x
  · exact (betterPeer_either (some x) z).elim id (hz ▸ ·)
  · exact if_neg (outranks_asymm (h hz))

/-- A peer that outranks the best so far, where that is another, becomes the best. -/
theorem betterPeer_takes {best : Option (Station × Peer)} {x : Station × Peer}
    (h : ∀ y, best = some y → y ≠ x → outranks x.2.preference x.1 y.2.preference y.1 = true) : betterPeer best x = some x := by
  cases best with
  | none => rfl
  | some y =>
    by_cases hy : y = x
    · exact (betterPeer_either (some y) x).elim (·.trans (congrArg some hy)) id
    · exact if_pos (h y rfl hy)

/-- A peer of the list, or the best so far, that outranks every other one is the best of the whole. -/
theorem foldl_betterPeer_top {x : Station × Peer} {ps : List (Station × Peer)} {best : Option (Station × Peer)}
    (hx : best = some x ∨ x ∈ ps)
    (htop : ∀ y, best = some y ∨ y ∈ ps → y ≠ x → outranks x.2.preference x.1 y.2.preference y.1 = true) :
    ps.foldl betterPeer best = some x := by
  induction ps generalizing best with
  | nil => simpa using hx
  | cons z zs ih =>
    refine ih ?found fun y hy => htop y ?listed
    case found =>
      rcases hx with rfl | hx
      · exact .inl (betterPeer_stays (htop z (.inr List.mem_cons_self)))
      · rcases List.mem_cons.1 hx with rfl | hx
        · exact .inl (betterPeer_takes fun y hy => htop y (.inl hy))
        · exact .inr hx
    case listed =>
      rcases hy with hy | hy
      · rcases betterPeer_either best z with h | h
        · exact .inl (h.symm.trans hy)
        · exact .inr (Option.some.inj (h.symm.trans hy) ▸ List.mem_cons_self)
      · exact .inr (List.mem_cons_of_mem z hy)

/-! ## The partners of the segment (R101) -/

section Partners

variable {s : State}

/-- The station has an entry of the own segment. -/
def State.partner (s : State) (n : Station) (p : Peer) : Prop := s.pt.peers[n] = some p ∧ p.segment = s.conf.segment

/-- The own rank is above that of a peer (R101). -/
def State.above (s : State) (n : Station) (p : Peer) : Prop :=
  p.preference < s.conf.preference ∨ (p.preference = s.conf.preference ∧ s.cf.station < n)

/-- The peers of the own segment are the partners. -/
theorem State.mem_segmentPeers {n : Station} {p : Peer} : (n, p) ∈ s.segmentPeers ↔ s.partner n p := by
  simp only [State.segmentPeers, List.mem_filter, mem_presentPeers, beq_iff_eq, State.partner]

/-- The designated candidates are the partners announcing DESIGNATED. -/
theorem State.mem_designatedPeers {n : Station} {p : Peer} :
    (n, p) ∈ s.designatedPeers ↔ s.partner n p ∧ p.role = .designated := by
  simp only [State.designatedPeers, List.mem_filter, State.mem_segmentPeers, beq_iff_eq]

/-- The candidates are the partners not announcing DISABLED. -/
theorem State.mem_candidates {n : Station} {p : Peer} : (n, p) ∈ s.candidates ↔ s.partner n p ∧ p.role ≠ .disabled := by
  simp only [State.candidates, List.mem_filter, State.mem_segmentPeers, bne_iff_ne]

/-- The STANDBY candidates are the partners announcing STANDBY. -/
theorem State.mem_standbyCandidates {n : Station} {p : Peer} :
    (n, p) ∈ s.candidates.filter (fun x => x.2.role == .standby) ↔ s.partner n p ∧ p.role = .standby := by
  simp only [List.mem_filter, State.mem_candidates, beq_iff_eq, and_assoc, and_congr_right_iff, and_iff_right_iff_imp]
  rintro - h
  simp [h]

/-- The own rank above a peer's, as the unit compares them. -/
theorem State.outranksPeer_iff {n : Station} {p : Peer} : s.outranksPeer (n, p) = true ↔ s.above n p := outranks_iff ..

/-- No partner is DESIGNATED. -/
theorem State.designatedPeers_eq_nil : s.designatedPeers = [] ↔ ∀ n p, s.partner n p → p.role ≠ .designated := by
  simp only [List.eq_nil_iff_forall_not_mem, Prod.forall, State.mem_designatedPeers, not_and, ne_eq]

/-- The station has an entry of the own segment that is DESIGNATED. -/
def State.designatedPartner (s : State) (n : Station) (p : Peer) : Prop :=
  s.pt.peers[n] = some p ∧ p.segment = s.conf.segment ∧ p.role = .designated

/-- The DESIGNATED partners are the designated candidates. -/
theorem State.designatedPartner_iff {n : Station} {p : Peer} : s.designatedPartner n p ↔ (n, p) ∈ s.designatedPeers := by
  rw [State.mem_designatedPeers, State.partner, and_assoc, State.designatedPartner]

/-- With no DESIGNATED partner, none is the highest-ranked. -/
theorem State.highestPartner_none (h : ∀ n p, ¬s.designatedPartner n p) : highestRanked s.designatedPeers = none := by
  have empty : s.designatedPeers = [] :=
    List.eq_nil_iff_forall_not_mem.2 fun x hx => h x.1 x.2 (State.designatedPartner_iff.2 hx)
  rw [empty]
  rfl

/-- The DESIGNATED partner that outranks every other one is the highest-ranked. -/
theorem State.highestPartner_some {n : Station} {p : Peer} (hp : s.designatedPartner n p)
    (htop : ∀ m q, s.designatedPartner m q → m ≠ n → q.preference < p.preference ∨ (q.preference = p.preference ∧ n < m)) :
    highestRanked s.designatedPeers = some n := by
  have best : s.designatedPeers.foldl betterPeer none = some (n, p) := by
    refine foldl_betterPeer_top (.inr (State.designatedPartner_iff.1 hp)) ?_
    rintro ⟨m, q⟩ hy hne
    have hq := State.designatedPartner_iff.2 (hy.resolve_left nofun)
    refine (outranks_iff ..).2 (htop m q hq fun hmn => hne ?_)
    subst hmn
    rw [Option.some.inj (hq.1.symm.trans hp.1)]
  rw [highestRanked, best]
  rfl

/-- The partners' places, station by station. -/
theorem State.segmentPeers_places (s : State) :
    s.segmentPeers.map (fun x => Place.station x.1) =
      (allStations.filter fun n => s.pt.peers[n].any fun p => p.segment == s.conf.segment).map .station := by
  unfold State.segmentPeers presentPeers
  induction allStations with
  | nil => rfl
  | cons n ns ih =>
    cases h : s.pt.peers[n.val] with
    | none => simpa [h] using ih
    | some p => by_cases hseg : p.segment = s.conf.segment <;> simpa [h, hseg] using ih

/-! ## Who becomes DESIGNATED (R107, R110) -/

/-- The rule of the listen period's end and of a re-evaluation, for the peers that the station has to outrank where no candidate is
designated. -/
def State.winsOver (s : State) (rivals : List (Station × Peer)) : Bool :=
  if s.designatedPeers.isEmpty then rivals.all s.outranksPeer else s.conf.preempt && s.designatedPeers.all s.outranksPeer

/-- The rivals at the listen period's end are all candidates (R107). -/
theorem State.winsListen_eq (s : State) : s.winsListen = s.winsOver s.candidates := rfl

/-- The rivals at a re-evaluation are the STANDBY candidates (R110). -/
theorem State.winsStandby_eq (s : State) : s.winsStandby = s.winsOver (s.candidates.filter fun x => x.2.role == .standby) := rfl

/-- A station wins by the top rank among its rivals where no partner is DESIGNATED, and with PREEMPT above every DESIGNATED one. -/
theorem State.winsOver_iff {rivals : List (Station × Peer)} {P : Peer → Prop}
    (hrivals : ∀ m q, (m, q) ∈ rivals ↔ s.partner m q ∧ P q) :
    s.winsOver rivals = true ↔
      ((∀ m q, s.partner m q → q.role ≠ .designated) ∧ ∀ m q, s.partner m q → P q → s.above m q) ∨
        ((∃ m q, s.partner m q ∧ q.role = .designated) ∧ s.conf.preempt = true ∧
          ∀ m q, s.partner m q → q.role = .designated → s.above m q) := by
  unfold State.winsOver
  by_cases hnone : ∀ m q, s.partner m q → q.role ≠ .designated
  case pos =>
    have absent : ¬∃ m q, s.partner m q ∧ q.role = .designated := fun ⟨m, q, hq, hd⟩ => hnone m q hq hd
    rw [State.designatedPeers_eq_nil.2 hnone]
    simp only [List.isEmpty_nil, if_true, List.all_eq_true, Prod.forall, hrivals, State.outranksPeer_iff, and_imp, absent,
      false_and, or_false, and_iff_right hnone]
  case neg =>
    have present : ∃ m q, s.partner m q ∧ q.role = .designated := by simpa using hnone
    have nonempty : ¬s.designatedPeers.isEmpty = true := fun h => hnone (State.designatedPeers_eq_nil.1 (List.isEmpty_iff.1 h))
    simp only [nonempty, if_false, Bool.and_eq_true, List.all_eq_true, Prod.forall, State.mem_designatedPeers,
      State.outranksPeer_iff, and_imp, present, true_and, hnone, false_and, false_or, Bool.false_eq_true]

end Partners

/-! ## Segment designated (R102) -/

section Designated

variable (s : State)

/-- The station reported while DESIGNATED is the own one (R102). -/
theorem State.reportedDesignated_own (h : s.eu.role = .designated) : s.reportedDesignated = some s.cf.station := if_pos h

/-- In any other role it is the highest-ranked DESIGNATED partner (R102). -/
theorem State.reportedDesignated_partner (h : s.eu.role ≠ .designated) :
    s.reportedDesignated = highestRanked s.designatedPeers := if_neg h

/-- Segment designated goes to the station reported, and its change makes a STATUS pending (R102, R118, R160). -/
theorem State.refreshDesignated_becomes {d : Option Station} (h : s.reportedDesignated = d) :
    (s.eu.segmentDesignated = d → s.refreshDesignated = s) ∧
      (s.eu.segmentDesignated ≠ d →
        s.refreshDesignated =
          { s with eu.segmentDesignated := d, cl.statusPending := some (s.cl.statusPending.getD false) }) := by
  subst h
  exact ⟨fun h => if_pos h, fun h => if_neg h⟩

end Designated

/-- Settles O24, by the station to be reported. -/
theorem segmentDesignatedFollows : Obligations.SegmentDesignatedFollows := by
  intro s c hc
  obtain rfl := s.conf_eq c hc
  refine ⟨fun hrole => ?own, fun hrole hnone => ?none, fun n p hrole hp htop => ?top⟩
  case own => exact s.refreshDesignated_becomes (s.reportedDesignated_own hrole)
  case none => exact s.refreshDesignated_becomes ((s.reportedDesignated_partner hrole).trans (State.highestPartner_none hnone))
  case top => exact s.refreshDesignated_becomes ((s.reportedDesignated_partner hrole).trans (State.highestPartner_some hp htop))

/-! ## Becoming DESIGNATED (R111, R112) -/

/-- The end of a change of role as a whole: ROLE_CHANGE, the STATUS request, segment designated taken anew (R102, R118). -/
theorem State.announceRole_eq (s : State) (left : Role) :
    s.announceRole left =
      { s with
        ec := s.ec.notify .roleChange (word16 left.code s.eu.role.code)
        cl.statusPending := some (s.cl.statusPending.getD false), eu.segmentDesignated := s.reportedDesignated } := by
  unfold State.announceRole State.refreshDesignated
  split
  case isTrue h =>
    have same : s.reportedDesignated = s.eu.segmentDesignated := h.symm
    rw [same]
    rfl
  case isFalse => rfl

/-- Becoming DESIGNATED as a whole, with the previous designated that the TAKEOVER names (R111, R112). -/
theorem State.becomeDesignated_eq (s : State) {previous : Option Station} (h : s.previousDesignated = previous) :
    s.becomeDesignated =
      { s with
        eu.role := .designated, eu.lastDesignated := none, eu.segmentDesignated := some s.cf.station
        eu.takeoverHolder := some ⟨s.conf.segment, previous⟩
        eu.announceHolder := some ⟨s.conf.segment, .designated, s.conf.preference, s.conf.zones, s.conf.interval⟩
        tw := s.tw.requestFlush (s.partnerPlaces previous)
        ec := s.ec.notify .roleChange (word16 s.eu.role.code 3)
        cl.statusPending := some (s.cl.statusPending.getD false) } := by
  subst h
  rw [State.becomeDesignated, State.announceRole_eq, State.reportedDesignated_own _ rfl]
  rfl

/-- Settles O26, by the previous designated. -/
theorem becomingDesignated : Obligations.BecomingDesignated := by
  intro s c hc
  obtain rfl := s.conf_eq c hc
  have becomes {previous : Option Station} (h : s.previousDesignated = previous) := s.becomeDesignated_eq h
  simp only [State.partnerPlaces, s.segmentPeers_places] at becomes
  refine ⟨fun hnone => becomes ?_, fun n p hp htop => becomes ?_⟩
  · simp only [State.previousDesignated, State.highestPartner_none hnone]
  · simp only [State.previousDesignated, State.highestPartner_some hp htop]

/-! ## The acting on a report (R108 to R110, R116, R117) -/

section Report

variable {s : State} {kind : ReportKind} {n : Station} {before after : Option Peer}

/-- An entry of the own segment. -/
theorem State.ownSegment_iff {p : Option Peer} : s.ownSegment p = true ↔ ∃ q, p = some q ∧ q.segment = s.conf.segment := by
  simp only [State.ownSegment, Option.any_eq_true, beq_iff_eq]

/-- An entry of the own segment that is DESIGNATED. -/
theorem State.ownDesignated_iff {p : Option Peer} :
    s.ownDesignated p = true ↔ ∃ q, p = some q ∧ q.segment = s.conf.segment ∧ q.role = .designated := by
  simp only [State.ownDesignated, Option.any_eq_true, Bool.and_eq_true, beq_iff_eq]

/-- A DISABLED or LISTENING station does not act on a report (R108). -/
theorem State.actOnReport_idle (h : s.eu.role = .disabled ∨ s.eu.role = .listening) : s.actOnReport kind n before after = s := by
  rcases h with h | h <;> simp only [State.actOnReport, h]

/-- A STANDBY station acts on a report of its segment by becoming DESIGNATED where it wins (R109, R110). -/
theorem State.actOnReport_standby (h : s.eu.role = .standby) :
    s.actOnReport kind n before after =
      if (s.ownSegment before = true ∨ s.ownSegment after = true) ∧ s.winsStandby = true then s.becomeDesignated else s := by
  simp only [State.actOnReport, h, Bool.and_eq_true, Bool.or_eq_true]

/-- A DESIGNATED station resolves the report of another DESIGNATED one of its segment (R116). -/
theorem State.actOnReport_dual (h : s.eu.role = .designated) {p : Peer} (hkind : kind ≠ .removed)
    (hseg : p.segment = s.conf.segment) (hrole : p.role = .designated) :
    s.actOnReport kind n before (some p) = s.resolveDual kind n p := by
  have dual : s.ownDesignated (some p) = true := State.ownDesignated_iff.2 ⟨p, rfl, hseg, hrole⟩
  simp only [State.actOnReport, h, dual, hkind, ne_eq, not_false_eq_true, and_self, if_true]

/-- Any other report leaves a DESIGNATED station as it is (R116). -/
theorem State.actOnReport_alone (h : s.eu.role = .designated) (hnone : kind = .removed ∨ ¬s.ownDesignated after = true) :
    s.actOnReport kind n before after = s := by
  have pass : ¬(kind ≠ .removed ∧ s.ownDesignated after = true) := fun ⟨hk, ho⟩ => hnone.elim hk fun hn => hn ho
  simp only [State.actOnReport, h, if_neg pass]
  split <;> rfl

/-- A lower rank is answered with the ANNOUNCE (R116). -/
theorem State.resolveDual_above (h : s.eu.role = .designated) {p : Peer} (habove : s.above n p) :
    s.resolveDual kind n p =
      { s with
        eu.announceHolder := some ⟨s.conf.segment, .designated, s.conf.preference, s.conf.zones, s.conf.interval⟩ } := by
  rw [State.resolveDual, if_pos (State.outranksPeer_iff.2 habove), State.loadAnnounce, State.ownAnnounce, h]

/-- Before a higher rank whose TAKEOVER names it the station steps down (R116, R117). -/
theorem State.resolveDual_named {p : Peer} (habove : ¬s.above n p) (hkind : kind = .takeover (some s.cf.station)) :
    s.resolveDual kind n p = s.stepDown := by
  rw [State.resolveDual, if_neg (mt State.outranksPeer_iff.1 habove), if_pos hkind]

/-- Before any other report of a higher rank it steps down with DUAL_ACTIVE (R116, R117). -/
theorem State.resolveDual_alarmed {p : Peer} (habove : ¬s.above n p) (hkind : kind ≠ .takeover (some s.cf.station)) :
    s.resolveDual kind n p = s.stepDown.raiseAlarm .dualActive (word16 0 (BitVec.ofNat 8 n)) := by
  rw [State.resolveDual, if_neg (mt State.outranksPeer_iff.1 habove), if_neg hkind]
  rfl

end Report

/-- Settles O25, role by role. -/
theorem rankDecides : Obligations.RankDecides := by
  intro s c kind n before after hc
  obtain rfl := s.conf_eq c hc
  intro own partner above wins
  have winsStandby : s.winsStandby = true ↔ wins := by
    rw [State.winsStandby_eq]
    exact State.winsOver_iff fun _ _ => State.mem_standbyCandidates
  refine ⟨State.actOnReport_idle, fun hrole => ?standby, fun hrole => ⟨fun p hkind hafter hseg hdes => ?dual, fun hnone => ?alone⟩⟩
  case standby =>
    have acts :
        (s.ownSegment before = true ∨ s.ownSegment after = true) ∧ s.winsStandby = true ↔ (own before ∨ own after) ∧ wins :=
      and_congr (or_congr State.ownSegment_iff State.ownSegment_iff) winsStandby
    rw [State.actOnReport_standby hrole]
    exact ⟨fun h => if_pos (acts.2 h), fun h => if_neg (mt acts.1 (not_and_or.2 h))⟩
  case dual =>
    subst hafter
    rw [State.actOnReport_dual hrole hkind hseg hdes]
    exact ⟨State.resolveDual_above hrole, State.resolveDual_named, State.resolveDual_alarmed⟩
  case alone =>
    refine State.actOnReport_alone hrole (hnone.imp_right fun hother hown => ?_)
    obtain ⟨q, rfl, hseg, hdes⟩ := State.ownDesignated_iff.1 hown
    rcases hother with hforeign | ⟨p, hp, hp'⟩
    · exact hforeign ⟨q, rfl, hseg⟩
    · exact hp' (Option.some.inj hp ▸ hdes)

/-! ## The listen period's end (R107) -/

section Listening

variable {s : State}

/-- LISTEN_TIMER_EXPIRY of a LISTENING station. -/
theorem exec_listenTimerExpiry (hr : s.resetAsserted = false) (hrole : s.eu.role = .listening) (ht : s.eu.listenTimer ≠ .stopped) :
    exec .listenTimerExpiry s = .next s.endListening.arbitrate := takeEvent_occurs hr ⟨hrole, ht⟩

/-- From LISTENING to STANDBY, whole but for segment designated (R107, R118). -/
theorem State.becomeStandby_eq (h : s.eu.role = .listening) :
    s.becomeStandby =
      State.refreshDesignated
        { s with
          eu.role := .standby
          eu.announceHolder := some ⟨s.conf.segment, .standby, s.conf.preference, s.conf.zones, s.conf.interval⟩
          ec := s.ec.notify .roleChange (word16 1 2)
          cl.statusPending := some (s.cl.statusPending.getD false) } := by
  rw [State.becomeStandby, h]
  rfl

end Listening

/-- Settles O28: the rule of R107 decides between the two roles. -/
theorem listenPeriodEnds : Obligations.ListenPeriodEnds := by
  intro s c hr hc hrole ht
  obtain rfl := s.conf_eq c hc
  intro partner above wins
  let stopped : State := { s with eu.listenTimer := .stopped }
  have winsListen : stopped.winsListen = true ↔ wins := by
    rw [State.winsListen_eq]
    exact State.winsOver_iff fun _ _ => State.mem_candidates
  rw [exec_listenTimerExpiry hr hrole ht]
  refine ⟨fun hwins => ?_, fun hwins => ?_⟩
  · have ends : s.endListening = stopped.becomeDesignated := if_pos (winsListen.2 hwins)
    rw [ends]
  · have ends : s.endListening = stopped.becomeStandby := if_neg (mt winsListen.1 hwins)
    rw [ends, State.becomeStandby_eq (s := stopped) hrole]
    rfl

end Sys2Proof.Machine
end

section
/-! A message of the card link that ends with nothing to be taken, its check good or failed, and a header that is not good (R126,
R149 to R151). -/

namespace Sys2Proof.Machine

/-! ## Messages that end (R126, R149, R150) -/

section Ends

variable {s : State} {h : LinkHeader} {got : List Byte}

/-- A message is of no use where it is neither a DATA_OUT, nor a REQUEST, nor a RECEIVE_READY or an IDLE of its length (R126). -/
theorem isUnusable_iff (type : Byte) (n : Nat) :
    isUnusable type n = true ↔ type ≠ 0x10#8 ∧ type ≠ 0x20#8 ∧ (type = 0x41#8 → n ≠ 1) ∧ (type = 0x50#8 → n ≠ 0) := by
  unfold isUnusable typeDataOut typeRequest typeReceiveReady typeIdle
  split
  case isTrue ht => simpa using fun hout hreq => absurd ht (not_or.2 ⟨hout, hreq⟩)
  case isFalse ht =>
    obtain ⟨hout, hreq⟩ := not_or.1 ht
    split
    case isTrue hready => simp [hready]
    case isFalse hready =>
      split
      case isTrue hidle => simp [hidle]
      case isFalse hidle => simp [hout, hreq, hready, hidle]

/-- IDLE, of length 0, does what every good message does, and nothing else (R150, R151). -/
theorem exec_idle (hr : s.resetAsserted = false) (hrec : s.cl.receiver = .other h []) (ht : h.type = typeIdle)
    (hl : h.length = 0) : exec .idle s = .next s.heard.arbitrate := by
  have ends : s.endingMessage [] = some h := (s.endingMessage_eq_some [] h).2 ⟨[], hrec, by rw [hl]; rfl, List.nil_prefix⟩
  rw [← State.goodMessage_eq]
  exact takeEvent_occurs hr (by simp [ends, ht])

/-- UNUSABLE_MESSAGE counts LINK_MSG_ERR behind what every good message does (R126, R150). -/
theorem exec_unusableMessage (hr : s.resetAsserted = false) (hrec : s.cl.receiver = .other h got)
    (hu : isUnusable h.type h.length = true) :
    exec (.unusableMessage h.type h.length) s = .next (State.arbitrate (s.heard.count .linkMsgErr)) := by
  show takeEvent s (match s.cl.receiver with | .other h' _ => _ | .hunt | .header _ | .body _ _ _ => none) = _
  simp only [hrec, hu, and_self, if_true, State.goodMessage_eq]
  exact takeEvent_some s _ hr

/-- MESSAGE_BAD_CHECK at the end of a message other than a DATA_OUT counts LINK_MSG_ERR alone (R150). -/
theorem exec_messageBadCheck_other (hr : s.resetAsserted = false) (hrec : s.cl.receiver = .other h got)
    (hl : got.length = h.length.val) :
    exec .messageBadCheck s = .next (State.arbitrate (State.count { s with cl.receiver := .header [] } .linkMsgErr)) := by
  show takeEvent s (match s.cl.receiver with | .body h got mode => _ | .other h got => _ | .hunt | .header _ => none) = _
  simp only [hrec, hl, if_true]
  exact takeEvent_some s _ hr

end Ends

/-! ## A header that is not good (R149) -/

section Rejected

variable {s : State} {bytes front : List Byte}

/-- Bytes that are no sync are passed over. -/
theorem fromSync_append (hfront : ∀ x ∈ front, x ≠ linkSync) (back : List Byte) : fromSync (front ++ back) = fromSync back := by
  induction front with
  | nil => rfl
  | cons b front ih =>
    obtain ⟨hb, hrest⟩ := List.forall_mem_cons.1 hfront
    exact (if_neg hb).trans (ih hrest)

/-- With no sync behind its first byte the receiver hunts on (R149). -/
theorem rescan_hunt (b : Byte) (hfront : ∀ x ∈ front, x ≠ linkSync) : rescan (b :: front) = .hunt := by
  have passed : fromSync front = [] := by simpa [fromSync] using fromSync_append hfront []
  simp only [rescan, List.tail_cons, passed]

/-- With a sync behind its first byte the receiver is in the header that begins there (R149). -/
theorem rescan_header (b : Byte) (hfront : ∀ x ∈ front, x ≠ linkSync) (back : List Byte) :
    rescan (b :: (front ++ linkSync :: back)) = .header (linkSync :: back) := by
  have found : fromSync (front ++ linkSync :: back) = linkSync :: back := (fromSync_append hfront _).trans (if_pos rfl)
  simp only [rescan, List.tail_cons, found]

/-- LINK_HEADER_REJECTED at the header's place moves the receiver alone (R149). -/
theorem exec_linkHeaderRejected (hr : s.resetAsserted = false) (ha : s.headerGoesOn bytes) {r : Receiver}
    (hscan : rescan bytes = r) :
    exec (.linkHeaderRejected bytes) s = .next (State.arbitrate { s with cl.receiver := r }) := by
  subst hscan
  exact takeEvent_occurs hr ((s.awaitsHeader_iff bytes).2 ha)

end Rejected

/-- Settles O30: each message by its end, each header by the first sync behind its first byte. -/
theorem goodMessageTaken : Obligations.GoodMessageTaken := by
  intro s hr
  refine ⟨fun h got hrec => ?messages, fun b _ ha => ?single, fun b front back hfront => ⟨fun ha => ?hunt, fun ha => ?header⟩⟩
  case messages =>
    intro kept up taken
    refine ⟨fun ht hl hgot => ?idle, fun hout hreq hready hidle => ?unusable, exec_messageBadCheck_other hr hrec⟩
    case idle => exact exec_idle hr (hgot ▸ hrec) ht hl
    case unusable =>
      refine exec_unusableMessage hr hrec ((isUnusable_iff _ _).2 ⟨hout, hreq, fun ht hl => ?_, fun ht hl => ?_⟩)
      · exact hready ht (Fin.ext hl)
      · exact hidle ht (Fin.ext hl)
  case single => exact exec_linkHeaderRejected hr ha (rescan_hunt b (front := []) (by simp))
  case hunt => exact exec_linkHeaderRejected hr ha (rescan_hunt b hfront)
  case header => exact exec_linkHeaderRejected hr ha (rescan_header b hfront back)

end Sys2Proof.Machine
end

section
/-! The messages the card link sends, as bytes and in the arbiter's order (R125, R159), and the REQUEST and the RECEIVE_READY
that it takes (R157, R161, R164). -/

namespace Sys2Proof.Machine

-- One theorem after another: each waiting elaboration holds a thread with memory of its own.
set_option Elab.async false

/-! ## The bytes of a message (R125) -/

/-- The layout of every message, its body length as two bytes (R125). -/
theorem buildMessage_eq (type tag : Byte) (body : List Byte) :
    buildMessage type tag body =
      let header := [type, tag, BitVec.ofNat 8 (body.length / 256), BitVec.ofNat 8 body.length]
      let covered := header ++ [crc8 header] ++ body
      [0xA5#8] ++ covered ++ [hiByte (crc16 covered), loByte (crc16 covered)] := by
  rw [buildMessage, hiByte_ofNat, loByte_ofNat]
  rfl

/-- A flag is sent as 1 or 0 (R120). -/
theorem boolByte_eq (b : Bool) : boolByte b = if b then 1 else 0 := by cases b <;> rfl

/-! ## The arbiter's choice (R159) -/

section Choice

variable {s : State}

/-- With a message going out or the link DOWN the arbiter chooses nothing (R159). -/
theorem State.arbitrate_held (h : s.cl.tx ≠ none ∨ s.cl.link = .down) : s.arbitrate = s :=
  if_neg fun ⟨hfree, hup⟩ => h.elim (· hfree) fun hdown => by simp [hup] at hdown

/-- An idle transmitter of a link that is UP takes the first ready message (R159). -/
theorem State.arbitrate_free (hfree : s.cl.tx = none) (hup : s.cl.link = .up) : s.arbitrate = s.choose := if_pos ⟨hfree, hup⟩

/-- A STATUS pending goes first (R159). -/
theorem State.choose_status {flag : Bool} (hs : s.cl.statusPending = some flag) :
    s.choose =
      { s with cl.statusPending := none, cl.tx := some (.status s.cf.opState s.eu.role s.eu.segmentDesignated flag) } := by
  simp only [State.choose, hs]
  rfl

section Unpending

variable (hs : s.cl.statusPending = none)

include hs

/-- A CREDIT not yet sent goes next (R154, R159). -/
theorem State.choose_credit (hg : s.cl.grantTotal ≠ s.cl.lastCredit) :
    s.choose = { s with cl.lastCredit := s.cl.grantTotal, cl.tx := some (.credit s.cl.grantTotal) } := by
  simp only [State.choose, hs, if_pos hg]
  rfl

variable (hg : s.cl.grantTotal = s.cl.lastCredit)

include hg

/-- The oldest RESPONSE goes next (R159). -/
theorem State.choose_response {r : Response} {rs : List Response} (hr : s.cl.responses = r :: rs) :
    s.choose = { s with cl.responses := rs, cl.tx := some (.response r) } := by
  simp only [State.choose, hs, if_neg (not_not.2 hg), hr]
  rfl

variable (hr : s.cl.responses = [])

include hr

/-- The oldest EVENT goes next (R159, R180). -/
theorem State.choose_event {e : EventRecord} {es : List EventRecord} (he : s.ec.queue = e :: es) :
    s.choose = { s with ec.queue := es, cl.tx := some (.event e) } := by
  conv_lhs => simp only [State.choose, hs, if_neg (not_not.2 hg), hr, he]
  rfl

/-- With none of these ready it is a DATA_IN or an IDLE (R159). -/
theorem State.choose_data (he : s.ec.queue = []) : s.choose = s.chooseData := by
  simp only [State.choose, hs, if_neg (not_not.2 hg), hr, he]

end Unpending

/-- An allowance is left where the accept total is ahead of the delivered one (R148, R157). -/
theorem CardLink.allowance_eq_zero (c : CardLink) : c.allowance = 0 ↔ c.acceptTotal = c.deliveredTotal := sub_eq_zero

/-- The oldest delivery record goes out with an allowance left and the delivery slot empty (R76, R158). -/
theorem State.chooseData_sent {r : RxRecord} {rs : List RxRecord} (hq : s.bq.deliveryQ = r :: rs) (hslot : s.bq.deliverySlot = none)
    (ha : s.cl.acceptTotal ≠ s.cl.deliveredTotal) :
    s.chooseData =
      { s with
        bq.deliveryQ := rs, bq.deliverySlot := some r
        cl.tx := some (.dataIn (s.cl.deliveredTotal + 1) (dataInBody r s.bq.contents[r.buf]) false) } := by
  simp only [State.chooseData, hq, hslot, if_pos (mt s.cl.allowance_eq_zero.1 ha)]
  rfl

/-- Without a DATA_IN it is an IDLE once the idle timer has expired, and else nothing (R159). -/
theorem State.chooseData_idle (h : s.bq.deliveryQ = [] ∨ s.bq.deliverySlot ≠ none ∨ s.cl.acceptTotal = s.cl.deliveredTotal) :
    s.chooseData = if s.cl.idleTimer = .running 0 then { s with cl.tx := some .idle } else s := by
  unfold State.chooseData
  split
  case h_1 r rs hq hslot =>
    have spent : s.cl.allowance = 0 := s.cl.allowance_eq_zero.2 ((h.resolve_left (by simp [hq])).resolve_left (not_not.2 hslot))
    rw [if_neg (not_not.2 spent)]
    rfl
  case h_2 => rfl

end Choice

/-- Settles O4: the layouts kind by kind, then the choice down the arbiter's order. -/
theorem arbiterOrder : Obligations.ArbiterOrder := by
  unfold Obligations.ArbiterOrder
  intro message stateCode roleCode stationCode
  have layout (type tag : Byte) (body : List Byte) : buildMessage type tag body = message type tag body :=
    buildMessage_eq type tag body
  refine ⟨fun op role designated flag => ?status, fun total => layout _ _ _, fun r => layout _ _ _, fun r => layout _ _ _,
    fun tag body straddled => layout _ _ _, layout _ _ _, fun s => ⟨State.arbitrate_held, fun hfree hup => ?choice⟩⟩
  case status =>
    have state : op.code = stateCode op := by cases op <;> rfl
    have role : role.code = roleCode role := by cases role <;> rfl
    have station : stationOrNone designated = stationCode designated := by cases designated <;> rfl
    rw [← state, ← role, ← station, ← boolByte_eq]
    exact layout _ _ _
  case choice =>
    rw [State.arbitrate_free hfree hup]
    refine ⟨fun flag => State.choose_status, fun hs => ⟨State.choose_credit hs, fun hg =>
      ⟨fun r rs => State.choose_response hs hg, fun hr => ⟨fun e es => State.choose_event hs hg hr, fun he => ?data⟩⟩⟩⟩
    rw [State.choose_data hs hg hr he]
    refine ⟨fun r rs hq hslot ha => ?_, State.chooseData_idle⟩
    rw [State.chooseData_sent hq hslot ha, dataInBody, boolByte_eq]
    cases r.dest <;> rfl

/-! ## REQUEST and RECEIVE_READY (R157, R161, R164) -/

section Taken

variable {s : State} {h : LinkHeader} {got body : List Byte}

/-- What every good message does first leaves the operating state, the engine, the response list and the delivered total as they
were, even where the link comes UP into LISTENING (R149, R150, R151). -/
theorem State.heard_frame :
    s.heard.cf = s.cf ∧ s.heard.me = s.me ∧ s.heard.cl.responses = s.cl.responses ∧
      s.heard.cl.deliveredTotal = s.cl.deliveredTotal := by
  unfold State.heard
  split
  · exact ⟨rfl, rfl, rfl, rfl⟩
  · split <;> simp

/-- REQUEST, with its whole body, is offered to the engine behind what every good message does (R150, R161). -/
theorem exec_request (hr : s.resetAsserted = false) (hrec : s.cl.receiver = .other h got) (ht : h.type = typeRequest)
    (hl : body.length = h.length.val) (hg : got <+: body) :
    exec (.request h.tag body) s = .next (s.heard.offerRequest h.tag body).arbitrate := by
  have ends : s.endingMessage body = some h := (s.endingMessage_eq_some body h).2 ⟨got, hrec, hl, hg⟩
  rw [← State.goodMessage_eq]
  exact takeEvent_occurs hr (by simp [ends, ht])

/-- RECEIVE_READY, of length 1, offers its total behind what every good message does (R150, R157). -/
theorem exec_receiveReady {total : Byte} (hr : s.resetAsserted = false) (hrec : s.cl.receiver = .other h got)
    (ht : h.type = typeReceiveReady) (hl : h.length = 1) (hg : got <+: [total]) :
    exec (.receiveReady total) s = .next (s.heard.takeAccept total).arbitrate := by
  have ends : s.endingMessage [total] = some h := (s.endingMessage_eq_some [total] h).2 ⟨got, hrec, by rw [hl]; rfl, hg⟩
  rw [← State.goodMessage_eq]
  exact takeEvent_occurs hr (by simp [ends, ht])

variable (tag : Byte)

/-- A request waits in a queue with room while the engine is at work (R161, R164). -/
theorem State.offerRequest_queued (hroom : s.me.queue.length < requestDepth) (hbusy : s.me.stage ≠ .idle) :
    s.offerRequest tag body = { s with me.queue := s.me.queue ++ [⟨tag, body⟩] } := by
  simp only [State.offerRequest, if_pos hroom]
  rw [Management.takeNext_busy _ _ (by exact hbusy)]

/-- An idle engine takes a request at once, with the operating state standing (R164; log 12). -/
theorem State.offerRequest_taken (hq : s.me.queue = []) (hidle : s.me.stage = .idle) :
    s.offerRequest tag body = { s with me.current := some ⟨tag, body⟩, me.stage := .taken s.cf.opState } := by
  have room : s.me.queue.length < requestDepth := by rw [hq]; decide
  rw [State.offerRequest, if_pos room]
  simp only [hq, List.nil_append]
  rw [Management.takeNext_idle _ _ _ _ (by exact hidle) rfl]

/-- A full queue answers BUSY (R161). -/
theorem State.offerRequest_busy (hfull : requestDepth ≤ s.me.queue.length) (hb : s.cl.busyCount < busyDepth) :
    s.offerRequest tag body = { s with cl.responses := s.cl.responses ++ [⟨tag, [5, body.headD 0], false⟩] } := by
  rw [State.offerRequest, if_neg (Nat.not_lt.2 hfull), if_pos hb]
  rfl

/-- With the most BUSY answers waiting a request is discarded (R161). -/
theorem State.offerRequest_discarded (hfull : requestDepth ≤ s.me.queue.length) (hb : busyDepth ≤ s.cl.busyCount) :
    s.offerRequest tag body = s.count .linkProtoErr := by
  rw [State.offerRequest, if_neg (Nat.not_lt.2 hfull), if_neg (Nat.not_lt.2 hb)]

/-- An accept total that leaves an allowance of 64 or less is taken (R157). -/
theorem State.takeAccept_taken {total : Byte} (ha : (total - s.cl.deliveredTotal).toNat ≤ allowanceLimit) :
    s.takeAccept total = { s with cl.acceptTotal := total } := if_pos ha

/-- One that leaves more is refused with cause 3 (R157). -/
theorem State.takeAccept_refused {total : Byte} (ha : allowanceLimit < (total - s.cl.deliveredTotal).toNat) :
    s.takeAccept total = (s.count .linkProtoErr).raiseAlarm .linkProtocol (word16 3 total) := if_neg (Nat.not_le.2 ha)

end Taken

/-- Settles O31: what every good message does first leaves the engine, the response list and the delivered total as they were. -/
theorem requestAndAcceptTaken : Obligations.RequestAndAcceptTaken := by
  intro s h got hr hrec busy
  obtain ⟨cf, me, responses, delivered⟩ := s.heard_frame
  refine ⟨fun body ht hl hg => ?request, fun total ht hl hg => ?accept⟩
  case request =>
    have count : s.heard.cl.busyCount = busy := by rw [CardLink.busyCount, responses]
    rw [exec_request hr hrec ht hl hg]
    refine ⟨fun hroom hbusy => ?queued, fun hq hidle => ?taken, fun hfull hb => ?busy, fun hfull hb => ?discarded⟩
    case queued =>
      rw [State.offerRequest_queued h.tag (by rwa [me]) (by rwa [me])]
      simp only [me]
    case taken =>
      rw [State.offerRequest_taken h.tag (by rwa [me]) (by rwa [me])]
      simp only [cf]
    case busy =>
      rw [State.offerRequest_busy h.tag (by rwa [me]) (by rwa [count]), responses]
    case discarded => rw [State.offerRequest_discarded h.tag (by rwa [me]) (by rwa [count])]
  case accept =>
    rw [exec_receiveReady hr hrec ht hl hg]
    refine ⟨fun ha => ?taken, fun ha => ?refused⟩
    case taken => rw [State.takeAccept_taken (by rwa [delivered])]
    case refused => rw [State.takeAccept_refused (by rwa [delivered])]

end Sys2Proof.Machine
end

section
/-! The ladder and byte 8 of a frame: what the medium's going idle ends, the rungs that a station lets pass, a header good or not
(R124, R134 to R137, R143, R144). -/

namespace Sys2Proof.Machine

-- One theorem after another: each waiting elaboration holds a thread with memory of its own.
set_option Elab.async false

/-- The operating states in which the receiver judges are all but LOADING and CONFIG_FAULT (R143). -/
theorem OpState.listens_iff (op : OpState) : op.listens = true ↔ op ≠ .loading ∧ op ≠ .configFault := by
  cases op <;> simp [OpState.listens]

/-! ## The medium (R124, R134, R143) -/

section Cut

variable {s : State} (truncated : Bool)

/-- A frame without its end is a frame error (R124, R143). -/
theorem State.countCut_frame {h : Vector Byte 9} (ha : s.bp.assembly = .frame h) :
    s.countCut truncated = s.count .rxFrameErr := by
  simp only [State.countCut, ha]

/-- A frame cut before its byte 8 is a header error, where the receiver judges and no jam cut it (R124, R142, R143). -/
theorem State.countCut_empty (ha : s.bp.assembly = .empty) :
    s.countCut truncated =
      if truncated = true ∧ s.cf.opState ≠ .loading ∧ s.cf.opState ≠ .configFault ∧ s.bp.medium = .carrier then
        s.count .rxHeaderErr
      else s := by
  simp only [State.countCut, ha, Bool.and_eq_true, OpState.listens_iff, beq_iff_eq, and_assoc]

/-- What is passed over counts nothing (R143). -/
theorem State.countCut_waitIdle (ha : s.bp.assembly = .waitIdle) : s.countCut truncated = s := by
  simp only [State.countCut, ha]

/-- MEDIUM_GOES_IDLE with the ladder given up and the transmitter OFF (R124, R134). -/
theorem exec_mediumGoesIdle (hr : s.resetAsserted = false) (hbusy : s.bp.ladder = .busy) (hoff : s.bp.transmitter = .off) :
    exec (.mediumGoesIdle truncated) s =
      .next (State.arbitrate
        { s.countCut truncated with bp.medium := .idle, bp.ladder := .gap 2, bp.assembly := .empty }) :=
  takeEvent_occurs hr ⟨hbusy, hoff⟩

end Cut

/-! ## The rungs (R134 to R136, R144) -/

section Ladder

variable {s : State} {k : Fin 64}

/-- The quiet count is due to reach 66 in SYNCING at 65 (R144; log 25). -/
theorem State.quietDue_iff : s.quietDue = true ↔ s.cf.opState = .syncing ∧ 65 ≤ s.bp.quietCount := by
  simp [State.quietDue, quietSlots]

/-- No rung begins before the expiry of the quiet count that is due (R144; log 25). -/
theorem exec_rungStart_due (hq : s.quietDue = true) : exec .rungStart s = .next s := by
  show takeEvent s (if s.bp.transmitter = .off ∧ ¬s.quietDue then s.bp.ladder.nextRung.map s.beginRung else none) = _
  rw [if_neg fun h => h.2 hq, takeEvent_none]

/-- RUNG_START: the rung that follows begins (R134). -/
theorem exec_rungStart (hr : s.resetAsserted = false) (hoff : s.bp.transmitter = .off) (hq : s.quietDue ≠ true)
    (hk : s.bp.ladder.nextRung = some k) : exec .rungStart s = .next (s.beginRung k).arbitrate := by
  show takeEvent s (if s.bp.transmitter = .off ∧ ¬s.quietDue then s.bp.ladder.nextRung.map s.beginRung else none) = _
  rw [if_pos ⟨hoff, hq⟩, hk, Option.map_some, takeEvent_some s _ hr]

/-- The rung that follows: rung 0 the gap, rung k+1 rung k (R134). -/
theorem Ladder.nextRung_of (l : Ladder) (hk : (∃ n, l = .gap n) ∧ k = 0 ∨ ∃ j, l = .rung j ∧ k = j + 1) :
    l.nextRung = some k := by
  rcases hk with ⟨⟨n, rfl⟩, rfl⟩ | ⟨j, rfl, rfl⟩ <;> rfl

/-- In SYNCING a rung counts the slots that were still to pass before it, and the station lets it pass (R136, R144; log 25). -/
theorem State.beginRung_syncing (hop : s.cf.opState = .syncing) :
    s.beginRung k =
      { s with bp.ladder := .rung k, bp.quietCount := min 65 (s.bp.quietCount + s.bp.ladder.slots) } := by
  simp only [State.beginRung, State.stepQuiet, hop, if_true]
  exact if_neg (by simp [State.maySend, hop])

/-- Outside SYNCING a station that may not send, or does not use the rung, lets it pass (R136). -/
theorem State.beginRung_passed (hop : s.cf.opState ≠ .syncing) (h : s.maySend = false ∨ s.usesRung k = false) :
    s.beginRung k = { s with bp.ladder := .rung k } := by
  have passes : (s.maySend && s.usesRung k) = false := Bool.and_eq_false_iff.2 h
  simp only [State.beginRung, State.stepQuiet, if_neg hop]
  exact if_neg (ne_true_of_eq_false passes)

/-- A station may send in RUNNING, SYNCED, on an idle medium (R136). -/
theorem State.maySend_eq_false (h : s.cf.opState ≠ .running ∨ s.bp.sync = .seeking ∨ s.bp.medium ≠ .idle) :
    s.maySend = false := by
  rcases h with h | h | h <;> simp [State.maySend, h]

/-- A station uses no rung but its own two (R135). -/
theorem State.usesRung_foreign (hu : k.val ≠ s.rungOffset.val) (hn : k.val ≠ 32 + s.rungOffset.val) : s.usesRung k = false := by
  rw [Bool.eq_false_iff, Ne, State.usesRung_iff]
  exact fun h => h.elim (fun h => hu h.1) fun h => hn h.1

/-- A station with no work uses no rung (R135). -/
theorem State.usesRung_idle (ha : s.eu.announceHolder = none) (ht : s.eu.takeoverHolder = none) (he : s.bq.txSlot = .empty)
    (hu : s.bq.urgentQ = []) (hn : s.bq.normalQ = []) : s.usesRung k = false := by
  have urgent : s.urgentWork = false := by simp [State.urgentWork, ha, ht, he, hu]
  have normal : s.normalWork = false := by simp [State.normalWork, he, hn]
  simp [State.usesRung, urgent, normal]

end Ladder

/-- Settles O12: what the medium's going idle ends by the assembly area, then the rungs by the ladder and by what lets them
pass. -/
theorem ladderMoves : Obligations.LadderMoves := by
  intro s hr
  have slots (k : Fin 64) (hoff : s.bp.transmitter = .off) (hop : s.cf.opState = .syncing) (hq : s.bp.quietCount < 65)
      (hk : s.bp.ladder.nextRung = some k) :
      exec .rungStart s = .next (State.arbitrate
        { s with bp.ladder := .rung k, bp.quietCount := min 65 (s.bp.quietCount + s.bp.ladder.slots) }) := by
    have notDue : s.quietDue ≠ true := fun h => (State.quietDue_iff.1 h).2.not_gt hq
    rw [exec_rungStart hr hoff notDue hk, State.beginRung_syncing hop]
  refine ⟨fun truncated hbusy hoff => ?idle, fun hidle => takeEvent_occurs hr hidle, fun hop hq =>
    exec_rungStart_due (State.quietDue_iff.2 ⟨hop, hq⟩), fun n hoff hl hop hq => ?gap, fun j hoff hl hop hq => ?rung,
    fun k hoff hk hop => ?passed⟩
  case idle =>
    intro counted
    have cut : s.countCut truncated = counted := by
      cases ha : s.bp.assembly with
      | empty => rw [State.countCut_empty truncated ha]; simp only [counted, ha]
      | frame f => rw [State.countCut_frame truncated ha]; simp only [counted, ha]
      | waitIdle => rw [State.countCut_waitIdle truncated ha]; simp only [counted, ha]
    rw [exec_mediumGoesIdle truncated hr hbusy hoff, cut]
  case gap =>
    rw [slots 0 hoff hop hq (by rw [hl]; rfl), hl]
    rfl
  case rung =>
    rw [slots (j + 1) hoff hop hq (by rw [hl]; rfl), hl]
    rfl
  case passed =>
    intro r h
    have notDue : s.quietDue ≠ true := fun h => hop (State.quietDue_iff.1 h).1
    rw [exec_rungStart hr hoff notDue (s.bp.ladder.nextRung_of hk), State.beginRung_passed hop]
    rcases h with h | h | h | ⟨hu, hn⟩ | ⟨ha, ht, he, hu, hn⟩
    · exact .inl (State.maySend_eq_false (.inl h))
    · exact .inl (State.maySend_eq_false (.inr (.inl h)))
    · exact .inl (State.maySend_eq_false (.inr (.inr h)))
    · exact .inr (State.usesRung_foreign hu hn)
    · exact .inr (State.usesRung_idle ha ht he hu hn)

/-! ## Byte 8 of a frame (R124, R137, R144, R145) -/

section Header

variable {s : State} {h : Vector Byte 9}

/-- HEADER_RECEIVED with a failed header check, in a state in which the receiver judges (R124 step 1, R143). -/
theorem exec_headerReceived_bad (hr : s.resetAsserted = false) (hlistens : s.cf.opState.listens = true)
    (hoff : s.bp.transmitter = .off) (hempty : s.bp.assembly = .empty) (hcarrier : s.bp.medium = .carrier)
    (hcheck : crc8 (h.toList.take 8) ≠ h[8]) :
    exec (.headerReceived h) s =
      .next (State.arbitrate (State.count { s with bp.assembly := .waitIdle } .rxHeaderErr)) := by
  have watches : s.watches = true := by simp [State.watches, hlistens, hoff, hempty, hcarrier]
  have bad : s.takeHeader h = _ := if_neg (by simpa [headerCheckPasses] using hcheck)
  rw [← bad]
  exact takeEvent_occurs hr watches

/-- A station outside RUNNING, or one that hears another's number, finds no duplicate (R145). -/
theorem State.testDuplicate_other {source : Station} (h : s.cf.opState = .running → source ≠ s.cf.station) :
    s.testDuplicate source = s := if_neg fun ⟨hrun, hown⟩ => h hrun hown

/-- The station number outlasts the entry to RUNNING. -/
theorem State.enterRunning_station : s.enterRunning.cf.station = s.cf.station := by
  cases hl : s.cl.link with
  | down => rw [s.enterRunning_down hl]; rfl
  | up => rw [s.enterRunning_up hl, State.enterListening_cf]; rfl

end Header

/-- Settles O18: the header check, and then whether sync is sought. -/
theorem headerArrives : Obligations.HeaderArrives := by
  intro s h hr hoff hempty hcarrier hloading hfault good
  have listens : s.cf.opState.listens = true := s.cf.opState.listens_iff.2 ⟨hloading, hfault⟩
  have arrives (hcheck : crc8 (h.toList.take 8) = h[8]) :
      exec (.headerReceived h) s = .next (good.gainSync.testDuplicate (frameSource h)).arbitrate :=
    exec_headerReceived_good hr listens hoff hempty hcarrier hcheck
  refine ⟨exec_headerReceived_bad hr listens hoff hempty hcarrier, fun hcheck hop => ?stays, fun hcheck hop hother => ?gains⟩
  case stays =>
    have notSyncing : good.cf.opState ≠ .syncing := by
      show s.cf.opState ≠ .syncing
      rcases hop with hop | ⟨hop, -⟩ <;> simp [hop]
    have noDuplicate : good.cf.opState = .running → frameSource h ≠ good.cf.station := fun hrun =>
      hop.elim (fun hsilent => by cases hsilent.symm.trans hrun) And.right
    rw [arrives hcheck, good.gainSync_other notSyncing, State.testDuplicate_other noDuplicate]
  case gains =>
    rw [arrives hcheck, good.gainSync_syncing hop,
      State.testDuplicate_other fun _ => by rw [State.enterRunning_station]; exact hother]

end Sys2Proof.Machine
end

section
/-! The requests refused (R129, R165, R166), and READ_COUNTERS, ACK_EVENT and RESTART (R171 to R173, R180). -/

namespace Sys2Proof.Machine

-- One theorem after another: each waiting elaboration holds a thread with memory of its own.
set_option Elab.async false

/-! ## The form of a request (R129) -/

/-- A request is found by its code. -/
theorem ReqCode.find_byte (c : ReqCode) : allRequests.find? (fun d => d.byte == c.byte) = some c := by cases c <;> rfl

/-- Every request is listed. -/
theorem ReqCode.mem_allRequests (c : ReqCode) : c ∈ allRequests := List.mem_of_find?_eq_some c.find_byte

/-- The requests have different codes. -/
theorem ReqCode.byte_inj {c d : ReqCode} (h : c.byte = d.byte) : c = d := by
  have found := c.find_byte
  rw [h, d.find_byte] at found
  exact (Option.some.inj found).symm

/-- A body has the form of a request when it begins with its code and has its length (R129). -/
theorem requestForm_eq_some (body : List Byte) (c : ReqCode) :
    requestForm body = some c ↔ body.head? = some c.byte ∧ body.length = c.bodyLength := by
  cases body with
  | nil => simp [requestForm]
  | cons code args =>
    rw [requestForm, List.head?_cons, List.length_cons, Option.some_inj]
    constructor
    · intro h
      have fits := List.find?_some h
      simp only [Bool.and_eq_true, beq_iff_eq] at fits
      exact ⟨fits.1.symm, fits.2.symm⟩
    · rintro ⟨rfl, hlen⟩
      obtain ⟨d, hd⟩ := Option.isSome_iff_exists.1 <|
        List.find?_isSome (p := fun d : ReqCode => d.byte == c.byte && d.bodyLength == args.length + 1).2
          ⟨c, c.mem_allRequests, by simp [hlen]⟩
      have fits := List.find?_some hd
      simp only [Bool.and_eq_true, beq_iff_eq] at fits
      rw [hd, ReqCode.byte_inj fits.1]

/-- A body has no form where its code and length are those of no request (R129). -/
theorem requestForm_eq_none (body : List Byte)
    (h : ∀ code ∈ body.head?, (code, body.length) ∉ allRequests.map fun c => (c.byte, c.bodyLength)) :
    requestForm body = none := by
  refine Option.eq_none_iff_forall_ne_some.2 fun c hc => ?_
  obtain ⟨hcode, hlen⟩ := (requestForm_eq_some body c).1 hc
  exact h _ hcode (List.mem_map.2 ⟨c, c.mem_allRequests, by rw [hlen]⟩)

/-! ## Requests refused (R130, R164 to R166) -/

section Refused

variable {s : State}

/-- A response without results: the status and the code answered (R130). -/
theorem responseBody_nil (status : Status) (body : List Byte) : responseBody status body [] = [status.code, body.headD 0] := by
  rw [responseBody, ite_self]

/-- A request that the operating state at its taking forbids is answered NOT_ALLOWED (R164, R166). -/
theorem State.execute_forbidden {c : ReqCode} {effect : State → List Byte → State} {op : OpState} {r : Request}
    (hs : s.me.stage = .taken op) (hc : s.me.current = some r) (hf : requestForm r.body = some c)
    (ha : requestAllowed c op = false) : s.execute c effect = some (s.answer .notAllowed []) := by
  simp [State.execute, State.takenRequest, hs, hc, hf, ha]

/-- A request of no form is answered BAD_REQUEST (R165). -/
theorem exec_badRequest (hr : s.resetAsserted = false) {op : OpState} {r : Request} (hs : s.me.stage = .taken op)
    (hc : s.me.current = some r) (hf : requestForm r.body = none) :
    exec .badRequest s = .next (s.answer .badRequest []).arbitrate := by
  have run : exec .badRequest s = takeEvent s (some (s.answer .badRequest [])) := by
    simp only [exec, execBadRequest, State.takenRequest, hs, hc, hf, Option.map_some, if_true]
  rw [run, takeEvent_some s _ hr]

/-- The requests that LOADING and CONFIG_FAULT forbid (R166). -/
theorem requestAllowed_blind {c : ReqCode} {op : OpState} (hop : op = .loading ∨ op = .configFault)
    (hc : c = .readEntry ∨ c = .readBucket ∨ c = .addStatic ∨ c = .remove ∨ c = .flush ∨ c = .readPeer) :
    requestAllowed c op = false := by
  rcases hop with rfl | rfl <;> rcases hc with rfl | rfl | rfl | rfl | rfl | rfl <;> rfl

end Refused

/-- Settles O39: the form of the body or the operating state refuses the request, and the discard mark its response. -/
theorem requestsRefused : Obligations.RequestsRefused := by
  intro s op tag body straps hr hs hc answered refused blind
  have answers (status : Status) : answered status.code (s.answer status []) := by
    refine ⟨fun hd => ?made, fun hd hq => ?last, fun hd q qs hq => ?next⟩
    case made => rw [s.answer_made _ _ _ hc hd, responseBody_nil]
    case last => rw [s.answer_discarded _ _ _ hc hd, s.finishRequest_idle hq]
    case next => rw [s.answer_discarded _ _ _ hc hd, s.finishRequest_next q qs hq]
  have forbids (i : Instr) (c : ReqCode) (effect : State → List Byte → State) (hi : exec i s = takeEvent s (s.execute c effect))
      (ha : requestAllowed c op = false) (hlen : body.length = c.bodyLength) (hcode : body.head? = some c.byte) : refused i 6 := by
    have form : requestForm body = some c := (requestForm_eq_some body c).2 ⟨hcode, hlen⟩
    exact ⟨_, answers .notAllowed, by rw [hi, State.execute_forbidden hs hc form ha, takeEvent_some s _ hr]⟩
  refine ⟨fun h => ⟨_, answers .badRequest, exec_badRequest hr hs hc (requestForm_eq_none body h)⟩,
    fun hop => forbids _ .readEntry _ rfl (requestAllowed_blind hop (by simp)),
    fun hop => forbids _ .readBucket _ rfl (requestAllowed_blind hop (by simp)),
    fun hop => forbids _ .addStatic _ rfl (requestAllowed_blind hop (by simp)),
    fun hop => forbids _ .remove _ rfl (requestAllowed_blind hop (by simp)),
    fun hop => forbids _ .flush _ rfl (requestAllowed_blind hop (by simp)),
    fun hop => forbids _ .readPeer _ rfl (requestAllowed_blind hop (by simp)), ?restart⟩
  rintro rfl rfl
  exact forbids _ .restart _ rfl rfl rfl rfl

/-! ## Requests executed (R164 to R166) -/

/-- The execution of an allowed request is its effect on its arguments (R164 to R166). -/
theorem takeEvent_execute {s : State} (hr : s.resetAsserted = false) (c : ReqCode) (effect : State → List Byte → State)
    {op : OpState} {r : Request} (hs : s.me.stage = .taken op) (hc : s.me.current = some r) (hf : requestForm r.body = some c)
    (ha : requestAllowed c op = true) : takeEvent s (s.execute c effect) = .next (effect s r.body.tail).arbitrate := by
  rw [s.execute_allowed c effect op r hs hc hf ha, takeEvent_some s _ hr]

/-- A response made after the events or counters were written. -/
theorem State.answer_recorded (s : State) (e : EventUnit) (st : Status) (results : List Byte) (r : Request)
    (hc : s.me.current = some r) (hd : s.me.discardMark = false) :
    State.answer { s with ec := e } st results =
      { s with
        ec := e
        me.stage := .waitSend false
        cl.responses := s.cl.responses ++ [⟨r.tag, responseBody st r.body results, true⟩] } :=
  State.answer_made { s with ec := e } st results r hc hd

/-! ## READ_COUNTERS (R171) -/

/-- The bytes of a range of counters, counter by counter (R130, R171). -/
theorem EventUnit.counterRange_eq (e : EventUnit) (first count : Nat) (h : first + count ≤ 28) :
    e.counterRange first count =
      (List.range count).flatMap fun i => counterBytes (e.counters.toList.getD (first + i) 0) := by
  have window : (e.counters.toList.drop first).take count =
      (List.range count).map fun i => e.counters.toList.getD (first + i) 0 := by
    refine List.ext_getElem (by simp; omega) fun i hi _ => ?_
    have inside : first + i < e.counters.toList.length := by simp at hi ⊢; omega
    simp only [List.getElem_take, List.getElem_drop, List.getElem_map, List.getElem_range, List.getD_eq_getElem _ _ inside]
  rw [EventUnit.counterRange, window, List.flatMap_map]

section Counters

variable (s : State) {first count clear : Byte}

/-- READ_COUNTERS beyond counter 27, or with a clear above 1, is refused (R171). -/
theorem State.doReadCounters_refused (h : 28 < first.toNat + count.toNat ∨ 1 < clear.toNat) :
    s.doReadCounters [first, count, clear] = s.answer .badArgument [] := if_pos h

/-- READ_COUNTERS with clear 0 reads (R171). -/
theorem State.doReadCounters_read (h : first.toNat + count.toNat ≤ 28) :
    s.doReadCounters [first, count, 0#8] =
      s.answer .ok (first :: count :: s.ec.counterRange first.toNat count.toNat) :=
  if_neg fun hbad => hbad.elim h.not_gt (by decide)

/-- READ_COUNTERS with clear 1 reads and clears (R171). -/
theorem State.doReadCounters_clear (h : first.toNat + count.toNat ≤ 28) :
    s.doReadCounters [first, count, 1#8] =
      State.answer { s with ec := s.ec.clearRange first.toNat count.toNat } .ok
        (first :: count :: s.ec.counterRange first.toNat count.toNat) :=
  if_neg fun hbad => hbad.elim h.not_gt (by decide)

end Counters

/-! ## ACK_EVENT (R172, R180) -/

/-- An alarm is found by its code (R128, R172). -/
theorem alarmOfCode_code (k : EventKind) (hk : k.isAlarm = true) : alarmOfCode k.code = some k := by
  cases k with
  | dupStation | dualActive | configFault | linkProtocol => rfl
  | peerUp | peerDown | peerRestart | roleChange | localDisplaced | excessCollisions | intervalMismatch => cases hk

/-- Any other code names no alarm (R172). -/
theorem alarmOfCode_eq_none (code : Byte) (h : code ∉ [0x81#8, 0x82#8, 0x83#8, 0x84#8]) : alarmOfCode code = none := by
  refine List.find?_eq_none.2 fun k hk hcode => h ?_
  rw [← beq_iff_eq.1 hcode]
  exact List.mem_map_of_mem (f := EventKind.code) hk

section Acknowledge

variable (e : EventUnit) {k : EventKind}

/-- Records of other kinds all stay in a queue from which one kind is taken. -/
theorem filter_kind_absent {xs : List EventRecord} (h : ∀ x ∈ xs, x.kind ≠ k) :
    (xs.filter fun x => x.kind != k) = xs ∧ (xs.filter fun x => x.kind == k) = [] :=
  ⟨List.filter_eq_self.2 (by simpa using h), List.filter_eq_nil_iff.2 (by simpa using h)⟩

/-- An alarm that is not set is acknowledged to no effect (R172). -/
theorem EventUnit.acknowledge_unset (h : e.alarms.has k = false) : e.acknowledge k = e := if_neg (by simp [h])

/-- An alarm whose record has been sent is cleared (R172). -/
theorem EventUnit.acknowledge_sent (h : e.alarms.has k = true) (hq : ∀ r ∈ e.queue, r.kind ≠ k) :
    e.acknowledge k = { e with alarms := e.alarms.put k false } := by
  obtain ⟨stay, gone⟩ := filter_kind_absent hq
  simp only [EventUnit.acknowledge, h, stay, gone, if_true, List.map_nil, List.foldl_nil]

/-- An alarm whose record is unsent is cleared and the record taken from the queue, its lost count added on (R172, R180). -/
theorem EventUnit.acknowledge_unsent (h : e.alarms.has k = true) {r : EventRecord} {front back : List EventRecord}
    (hq : e.queue = front ++ r :: back) (hr : r.kind = k) (hothers : ∀ x ∈ front ++ back, x.kind ≠ k) :
    e.acknowledge k =
      { e with alarms := e.alarms.put k false, queue := front ++ back, lost := min 255 (e.lost + r.lost) } := by
  obtain ⟨hfront, hback⟩ := List.forall_mem_append.1 hothers
  obtain ⟨frontStays, frontGone⟩ := filter_kind_absent hfront
  obtain ⟨backStays, backGone⟩ := filter_kind_absent hback
  have others : (e.queue.filter fun x => x.kind != k) = front ++ back := by
    rw [hq, List.filter_append, List.filter_cons_of_neg (by simp [hr]), frontStays, backStays]
  have own : (e.queue.filter fun x => x.kind == k) = [r] := by
    rw [hq, List.filter_append, List.filter_cons_of_pos (by simp [hr]), frontGone, backGone]
    rfl
  simp only [EventUnit.acknowledge, h, others, own, if_true]
  rfl

end Acknowledge

section Requests

variable (s : State)

/-- ACK_EVENT of an alarm acknowledges it (R172). -/
theorem State.doAckEvent_alarm {k : EventKind} (hk : k.isAlarm = true) :
    s.doAckEvent [k.code] = State.answer { s with ec := s.ec.acknowledge k } .ok [] := by
  simp only [State.doAckEvent, alarmOfCode_code k hk]

/-- ACK_EVENT of a code that names no alarm is refused (R172). -/
theorem State.doAckEvent_refused {code : Byte} (h : code ∉ [0x81#8, 0x82#8, 0x83#8, 0x84#8]) :
    s.doAckEvent [code] = s.answer .badArgument [] := by
  simp only [State.doAckEvent, alarmOfCode_eq_none code h]

/-! ## RESTART (R173) -/

/-- RESTART answers OK, and the end of that response starts the warm restart (R173). -/
theorem State.doRestart_answers (straps : Station) {r : Request} (hc : s.me.current = some r) (hd : s.me.discardMark = false) :
    s.doRestart straps =
      { s with
        me.stage := .waitSend true
        cl.responses := s.cl.responses ++ [⟨r.tag, responseBody .ok r.body [], true⟩] } := by
  simp [State.doRestart, State.respond, hc, hd]

/-- A RESTART whose link has gone DOWN starts the warm restart at once (R173; log 13). -/
theorem State.doRestart_starts (straps : Station) (hd : s.me.discardMark = true) : s.doRestart straps = s.warmRestart straps :=
  if_pos hd

end Requests

/-- Settles O44: each request by its arguments, ACK_EVENT by what stands of the alarm and RESTART by the discard mark. -/
theorem countersAlarmsRestart : Obligations.CountersAlarmsRestart := by
  intro s op tag straps hr hs answered
  refine ⟨fun first count clear hd hc => ?counters, fun code hd hc => ?alarms, fun hc hop => ?restart⟩
  case counters =>
    have run : exec .readCounters s = .next (s.doReadCounters [first, count, clear]).arbitrate :=
      takeEvent_execute hr .readCounters State.doReadCounters hs hc rfl rfl
    refine ⟨fun h => ?refused, fun h => ?read⟩
    case refused =>
      rw [run, s.doReadCounters_refused h, s.answer_made _ _ _ hc hd]
      rfl
    case read =>
      intro values
      have range : s.ec.counterRange first.toNat count.toNat = values := s.ec.counterRange_eq _ _ h
      constructor
      · rintro rfl
        rw [run, s.doReadCounters_read h, s.answer_made _ _ _ hc hd, range]
        rfl
      · rintro rfl
        rw [run, s.doReadCounters_clear h, s.answer_recorded _ _ _ _ hc hd, range]
        rfl
  case alarms =>
    have run : exec .ackEvent s = .next (s.doAckEvent [code]).arbitrate :=
      takeEvent_execute hr .ackEvent State.doAckEvent hs hc rfl rfl
    refine ⟨fun h => ?refused, fun k hk hcode => ?alarm⟩
    case refused =>
      rw [run, s.doAckEvent_refused h, s.answer_made _ _ _ hc hd]
      rfl
    case alarm =>
      subst hcode
      have acknowledged {e : EventUnit} (he : s.ec.acknowledge k = e) :
          exec .ackEvent s = answered { s with ec := e } false [0, 9] := by
        rw [run, s.doAckEvent_alarm hk, he, s.answer_recorded _ _ _ _ hc hd]
        rfl
      exact ⟨fun h => acknowledged (s.ec.acknowledge_unset h), fun h => ⟨fun hq => acknowledged (s.ec.acknowledge_sent h hq),
        fun r front back hq hkind hothers => acknowledged (s.ec.acknowledge_unsent h hq hkind hothers)⟩⟩
  case restart =>
    have allowed : requestAllowed .restart op = true := by simp [requestAllowed, hop]
    have run : exec (.restart straps) s = .next (s.doRestart straps).arbitrate :=
      takeEvent_execute hr .restart (fun t _ => t.doRestart straps) hs hc rfl allowed
    refine ⟨fun hd => ?answers, fun hd => ?starts⟩
    case answers =>
      rw [run, s.doRestart_answers straps hc hd]
      rfl
    case starts => rw [run, s.doRestart_starts straps hd]

end Sys2Proof.Machine
end

section
/-! Sync gained without a frame: the quiet count's reaching 66, and a jam seen with the transmitter OFF (R134, R137, R142, R144,
R187). -/

namespace Sys2Proof.Machine

-- One theorem after another: each waiting elaboration holds a thread with memory of its own.
set_option Elab.async false

variable {s : State}

/-! ## The quiet count (R144) -/

/-- No expiry while the quiet count is not due (R144; log 25). -/
theorem exec_quietCountExpiry_early (hq : s.quietDue ≠ true) : exec .quietCountExpiry s = .next s := by
  show takeEvent s (if s.quietDue ∧ s.bp.medium = .idle then _ else none) = _
  rw [if_neg fun h => hq h.1, takeEvent_none]

/-- QUIET_COUNT_EXPIRY with the quiet count due, on an idle medium (R144). -/
theorem exec_quietCountExpiry_due (hr : s.resetAsserted = false) (hq : s.quietDue = true) (hidle : s.bp.medium = .idle) :
    exec .quietCountExpiry s = .next (State.enterRunning { s with bp.quietCount := 66 }).arbitrate :=
  takeEvent_occurs hr ⟨hq, hidle⟩

/-- Settles O14: the count due or not, and then the card link, UP or DOWN. -/
theorem quietCountGainsSync : Obligations.QuietCountGainsSync := by
  intro s c hr hop hidle hc
  refine ⟨fun early => exec_quietCountExpiry_early fun h => (State.quietDue_iff.1 h).2.not_gt early, fun due => ?gains⟩
  case gains =>
    intro run
    let counted : State := { s with bp.quietCount := 66 }
    have expires : exec .quietCountExpiry s = .next counted.enterRunning.arbitrate :=
      exec_quietCountExpiry_due hr (State.quietDue_iff.2 ⟨hop, due⟩) hidle
    have isRun : counted.synced = run := by simp only [State.synced, counted.conf_eq c hc]; rfl
    exact ⟨fun hdown => by rw [expires, counted.enterRunning_down hdown, isRun],
      fun hup => by rw [expires, counted.enterRunning_up hup, isRun]⟩

/-! ## A jam (R142) -/

/-- JAM_SEEN with the transmitter OFF: the ladder is given up, and the jam is taken where the receiver judges (R134, R142). -/
theorem exec_jamSeen (hr : s.resetAsserted = false) (hoff : s.bp.transmitter = .off) (hsense : s.bp.medium ≠ .collision) :
    exec .jamSeen s =
      .next (State.arbitrate (if s.cf.opState.listens then State.takeJam { s with bp := s.bp.occupy .collision }
        else { s with bp := s.bp.occupy .collision })) :=
  takeEvent_occurs hr ⟨hoff, hsense⟩

/-- Settles O17: whether the receiver judges, and then whether sync is sought. -/
theorem jamIsSeen : Obligations.JamIsSeen := by
  intro s hr hoff hsense taken
  have takes (hlistens : s.cf.opState.listens = true) : exec .jamSeen s = .next taken.gainSync.arbitrate := by
    rw [exec_jamSeen hr hoff hsense, if_pos hlistens]
    rfl
  refine ⟨fun hop => ?judged, fun hop => ?sought, fun hop => ?deaf⟩
  case judged =>
    have listens : s.cf.opState.listens = true := s.cf.opState.listens_iff.2 (by rcases hop with hop | hop <;> simp [hop])
    have notSyncing : taken.cf.opState ≠ .syncing := by
      show s.cf.opState ≠ .syncing
      rcases hop with hop | hop <;> simp [hop]
    rw [takes listens, taken.gainSync_other notSyncing]
  case sought => rw [takes (by rw [hop]; rfl), taken.gainSync_syncing hop]
  case deaf =>
    have passedOver : ¬s.cf.opState.listens = true := by rcases hop with hop | hop <;> simp [hop, OpState.listens]
    rw [exec_jamSeen hr hoff hsense, if_neg passedOver]
    rfl

end Sys2Proof.Machine
end

section
/-! The laws of the card link and of the delivery slot on what they read of a state, and the operations that leave that as it was: with
the link UP a credit may be granted, with the link DOWN none is (R66, R148, R152, R154). -/

namespace Sys2Proof.Machine

-- One theorem after another: each waiting elaboration holds a thread with memory of its own, and there are many here.
set_option Elab.async false

/-! ## What the laws read -/

/-- The card link's law on its own block (R148, R152). -/
def CardLink.sound (c : CardLink) : Prop :=
  (c.link = .down →
    c.totals = [0, 0, 0, 0, 0] ∧ c.holdTimer = .stopped ∧ c.idleTimer = .stopped ∧ c.restartWindow = false ∧
      c.receiver.buffer = [] ∧ c.tx.any OutMessage.unbroken = false) ∧
    (c.link = .up → c.holdTimer ≠ .stopped ∧ c.idleTimer ≠ .stopped)

/-- The card link without what its law does not read: its totals only while the link is UP. -/
def CardLink.bare (c : CardLink) : CardLink :=
  let total (n : Byte) : Byte := if c.link = .up then 0 else n
  { c with
    linkHold := 0, statusPending := none, responses := []
    grantTotal := total c.grantTotal, lastCredit := total c.lastCredit, expectedSeq := total c.expectedSeq
    acceptTotal := total c.acceptTotal, deliveredTotal := total c.deliveredTotal }

/-- What the laws of the card link and of the delivery slot read. -/
def State.linkBlocks (s : State) : CardLink × Option RxRecord := (s.cl.bare, s.bq.deliverySlot)

/-- The blocks of a state given by its parts. -/
@[simp] theorem State.linkBlocks_mk (r : Bool) (cf : Loader) (lt : Table) (tw : Walker) (fe : Forwarding) (bq : Pool)
    (pt : PeerTable) (eu : Election) (bp : BusPort) (cl : CardLink) (me : Management) (ec : EventUnit) (pending : List Instr) :
    (State.mk r cf lt tw fe bq pt eu bp cl me ec pending).linkBlocks = (cl.bare, bq.deliverySlot) := rfl

/-- The blocks put together from a state's own. -/
@[simp] theorem State.linkBlocks_eta (s : State) : (s.cl.bare, s.bq.deliverySlot) = s.linkBlocks := rfl

/-- The card link's law reads the bare card link. -/
theorem CardLink.sound_bare (c : CardLink) : c.bare.sound ↔ c.sound := by
  cases h : c.link <;> simp [CardLink.sound, CardLink.bare, CardLink.totals, h]

/-- The card link's law reads the blocks. -/
theorem State.linkKept_iff (s : State) : s.linkKept ↔ s.linkBlocks.1.sound := s.cl.sound_bare.symm

/-- The delivery slot's law reads the blocks. -/
theorem State.deliveryKept_iff (s : State) :
    s.deliveryKept ↔ s.linkBlocks.2.isSome = s.linkBlocks.1.tx.any OutMessage.isDataIn := Iff.rfl

section Blocks

variable {s t : State}

/-- What the blocks hold of the card link whatever its state. -/
theorem State.linkBlocks_fields (h : t.linkBlocks = s.linkBlocks) :
    t.cl.link = s.cl.link ∧ t.cl.holdTimer = s.cl.holdTimer ∧ t.cl.idleTimer = s.cl.idleTimer ∧ t.cl.tx = s.cl.tx ∧
      t.bq.deliverySlot = s.bq.deliverySlot := by
  simp only [State.linkBlocks, CardLink.bare, Prod.mk.injEq, CardLink.mk.injEq, true_and] at h
  obtain ⟨⟨hlink, hhold, hidle, -, -, -, -, -, -, -, htx⟩, hslot⟩ := h
  exact ⟨hlink, hhold, hidle, htx, hslot⟩

/-- Without a change of the card link and of the delivery slot the blocks stay. -/
theorem State.linkBlocks_of_cl (hcl : t.cl = s.cl := by simp) (hslot : t.bq.deliverySlot = s.bq.deliverySlot := by simp) :
    t.linkBlocks = s.linkBlocks := by
  rw [State.linkBlocks, hcl, hslot]; rfl

/-- With the link UP the totals are free. -/
theorem State.linkBlocks_of_up (hup : s.cl.link = .up) (hlink : t.cl.link = s.cl.link := by simp)
    (hhold : t.cl.holdTimer = s.cl.holdTimer := by simp) (hidle : t.cl.idleTimer = s.cl.idleTimer := by simp)
    (hreceiver : t.cl.receiver = s.cl.receiver := by simp) (hwindow : t.cl.restartWindow = s.cl.restartWindow := by simp)
    (htx : t.cl.tx = s.cl.tx := by simp) (hslot : t.bq.deliverySlot = s.bq.deliverySlot := by simp) :
    t.linkBlocks = s.linkBlocks := by
  simp only [State.linkBlocks, CardLink.bare, hlink, hup, hhold, hidle, hreceiver, hwindow, htx, hslot, if_true]

end Blocks

variable (s : State)

/-! ## Buffers -/

/-- A fresh credit is granted with the link UP alone (R66, R67). -/
@[simp] theorem State.pushRule_linkBlocks (b : BufNo) : (s.pushRule b).linkBlocks = s.linkBlocks := by
  by_cases hup : s.cl.link = .up
  case pos => exact State.linkBlocks_of_up hup
  case neg =>
    have none : s.deficit = 0 := s.deficit_ineligible fun h => hup h.1
    rw [State.pushRule, if_neg (by omega)]
    rfl

@[simp] theorem State.releaseReserve_linkBlocks (b : BufNo) : (s.releaseReserve b).linkBlocks = s.linkBlocks := by
  unfold State.releaseReserve
  split
  · exact State.pushRule_linkBlocks _ b
  · rfl

@[simp] theorem State.discardAll_linkBlocks (c : Counter) (bs : List BufNo) : (s.discardAll c bs).linkBlocks = s.linkBlocks := by
  induction bs generalizing s with
  | nil => rfl
  | cons b bs ih => exact (ih _).trans (State.pushRule_linkBlocks _ b)

theorem State.departTransmit_linkBlocks : s.departTransmit.linkBlocks = s.linkBlocks := by
  rw [State.departTransmit_eq]
  exact s.discardAll_linkBlocks _ _

theorem State.emptyDelivery_linkBlocks (c : Counter) : (s.emptyDelivery c).linkBlocks = s.linkBlocks :=
  State.discardAll_linkBlocks _ c _

@[simp] theorem State.departure_linkBlocks : s.departure.linkBlocks = s.linkBlocks :=
  (State.emptyDelivery_linkBlocks _ _).trans s.departTransmit_linkBlocks

theorem State.poolDown_linkBlocks : s.poolDown.linkBlocks = s.linkBlocks := by
  unfold State.poolDown
  split
  · exact ((State.emptyDelivery_linkBlocks _ _).trans (State.departTransmit_linkBlocks _)).trans rfl
  · exact (State.emptyDelivery_linkBlocks _ _).trans rfl

theorem State.freeLost_linkBlocks (d : Nat) : (s.freeLost d).linkBlocks = s.linkBlocks := by
  induction d generalizing s with
  | zero => rfl
  | succ d ih =>
    simp only [State.freeLost]
    split
    · exact (ih _).trans (s.releaseReserve_linkBlocks _)
    · rfl

@[simp] theorem State.storeBody_linkBlocks (m : DataOutMode) (p : List Byte) : (s.storeBody m p).linkBlocks = s.linkBlocks :=
  State.linkBlocks_of_cl

/-- The delivery slot emptied, its buffer by the push rule (R76). -/
theorem State.emptyDeliverySlot_linkBlocks :
    s.emptyDeliverySlot.linkBlocks = State.linkBlocks { s with bq.deliverySlot := none } := by
  unfold State.emptyDeliverySlot
  split
  · exact State.pushRule_linkBlocks _ _
  case h_2 hslot => rw [State.linkBlocks, hslot]; rfl

/-! ## The election -/

@[simp] theorem State.requestFlush_linkBlocks (ps : List Place) : (s.requestFlush ps).linkBlocks = s.linkBlocks := rfl
@[simp] theorem State.loadAnnounce_linkBlocks : s.loadAnnounce.linkBlocks = s.linkBlocks := rfl
@[simp] theorem State.quitDesignated_linkBlocks (r : Role) : (s.quitDesignated r).linkBlocks = s.linkBlocks := rfl
@[simp] theorem State.raiseAlarm_linkBlocks (k : EventKind) (a : BitVec 16) : (s.raiseAlarm k a).linkBlocks = s.linkBlocks := rfl

@[simp] theorem State.refreshDesignated_linkBlocks : s.refreshDesignated.linkBlocks = s.linkBlocks := by
  unfold State.refreshDesignated
  split <;> rfl

@[simp] theorem State.announceRole_linkBlocks (l : Role) : (s.announceRole l).linkBlocks = s.linkBlocks :=
  State.refreshDesignated_linkBlocks _

/-- The top-up grants its credits with the link UP (R68, R104). -/
theorem State.enterListening_linkBlocks (hup : s.cl.link = .up) : s.enterListening.linkBlocks = s.linkBlocks :=
  State.linkBlocks_of_up hup

@[simp] theorem State.stepDown_linkBlocks : s.stepDown.linkBlocks = s.linkBlocks := by simp [State.stepDown]

@[simp] theorem State.becomeDesignated_linkBlocks : s.becomeDesignated.linkBlocks = s.linkBlocks := by
  simp [State.becomeDesignated]

@[simp] theorem State.becomeStandby_linkBlocks : s.becomeStandby.linkBlocks = s.linkBlocks := by simp [State.becomeStandby]

theorem State.endListening_linkBlocks : s.endListening.linkBlocks = s.linkBlocks := by
  simp only [State.endListening]
  split <;> simp

theorem State.roleDown_linkBlocks : s.roleDown.linkBlocks = s.linkBlocks := by
  unfold State.roleDown
  split <;> simp [State.withdraw]

theorem State.roleSilent_linkBlocks : s.roleSilent.linkBlocks = s.linkBlocks := by
  unfold State.roleSilent
  split <;> simp

/-! ## Reports -/

theorem State.noteDesignated_linkBlocks (k : ReportKind) (n : Station) (p : Option Peer) :
    (s.noteDesignated k n p).linkBlocks = s.linkBlocks := by
  unfold State.noteDesignated
  (repeat' split) <;> rfl

theorem State.actOnReport_linkBlocks (k : ReportKind) (n : Station) (p q : Option Peer) :
    (s.actOnReport k n p q).linkBlocks = s.linkBlocks := by
  unfold State.actOnReport State.resolveDual
  (repeat' split) <;> simp

@[simp] theorem State.report_linkBlocks (k : ReportKind) (n : Station) (p q : Option Peer) :
    (s.report k n p q).linkBlocks = s.linkBlocks :=
  ((State.refreshDesignated_linkBlocks _).trans (State.actOnReport_linkBlocks _ _ _ _ _)).trans
    (s.noteDesignated_linkBlocks _ _ _)

@[simp] theorem State.reportRemoved_linkBlocks (xs : List (Station × Peer)) : (s.reportRemoved xs).linkBlocks = s.linkBlocks := by
  induction xs generalizing s with
  | nil => rfl
  | cons x xs ih => exact (ih _).trans (s.report_linkBlocks _ _ _ _)

@[simp] theorem State.notifyDown_linkBlocks (xs : List (Station × Peer)) : (s.notifyDown xs).linkBlocks = s.linkBlocks := by
  induction xs generalizing s with
  | nil => rfl
  | cons x xs ih => exact ih _

theorem State.agePeers_linkBlocks : s.agePeers.linkBlocks = s.linkBlocks := by
  simp only [State.agePeers]
  split <;> simp

@[simp] theorem State.notifyPeer_linkBlocks (n : Station) (p : Option Peer) (r : Role) :
    (s.notifyPeer n p r).linkBlocks = s.linkBlocks := by
  unfold State.notifyPeer
  (repeat' split) <;> rfl

@[simp] theorem State.notifyInterval_linkBlocks (n : Station) (p : Option Peer) (i : Nat) :
    (s.notifyInterval n p i).linkBlocks = s.linkBlocks := by
  unfold State.notifyInterval
  split <;> rfl

@[simp] theorem State.flushPeer_linkBlocks (n : Station) (p : Option Peer) (r : Role) :
    (s.flushPeer n p r).linkBlocks = s.linkBlocks := by
  unfold State.flushPeer
  split <;> rfl

@[simp] theorem State.flushPrevious_linkBlocks (n : Station) (p : Option Station) :
    (s.flushPrevious n p).linkBlocks = s.linkBlocks := by
  unfold State.flushPrevious
  (repeat' split) <;> rfl

@[simp] theorem State.putPeer_linkBlocks (n : Station) (p : Option Peer) : (s.putPeer n p).linkBlocks = s.linkBlocks := rfl

theorem State.takeTakeover_linkBlocks (n : Station) (o : Takeover) : (s.takeTakeover n o).linkBlocks = s.linkBlocks := by
  unfold State.takeTakeover
  split <;> simp

theorem State.handOn_linkBlocks (c : FrameClass) : (s.handOn c).linkBlocks = s.linkBlocks := by
  unfold State.handOn
  split
  · split
    · rfl
    · simp only [State.takeData]
      split <;> rfl
  · split
    · rfl
    · simp [State.takeAnnounce]
  · split
    · rfl
    · exact s.takeTakeover_linkBlocks _ _
  all_goals rfl

/-! ## The bus port -/

theorem State.countCut_linkBlocks (b : Bool) : (s.countCut b).linkBlocks = s.linkBlocks := by
  unfold State.countCut
  (repeat' split) <;> rfl

theorem State.stepQuiet_linkBlocks (n : Nat) : (s.stepQuiet n).linkBlocks = s.linkBlocks := by
  unfold State.stepQuiet
  split <;> rfl

theorem State.sendNext_linkBlocks : s.sendNext.linkBlocks = s.linkBlocks := by
  unfold State.sendNext State.sendNextData
  (repeat' split) <;> rfl

theorem State.beginRung_linkBlocks (k : Fin 64) : (s.beginRung k).linkBlocks = s.linkBlocks := by
  simp only [State.beginRung]
  split
  · exact (State.sendNext_linkBlocks _).trans (s.stepQuiet_linkBlocks _)
  · exact s.stepQuiet_linkBlocks _

theorem State.endJam_linkBlocks : s.endJam.linkBlocks = s.linkBlocks := by
  unfold State.endJam
  split
  · simp only [State.returnControl]
    (repeat' split) <;> rfl
  · simp only [State.returnData]
    (repeat' split)
    · exact State.pushRule_linkBlocks _ _
    · exact State.pushRule_linkBlocks _ _
    · rfl
  · rfl

theorem State.passSlot_linkBlocks : s.passSlot.linkBlocks = s.linkBlocks := by
  rcases s.passSlot_cases with h | ⟨-, -, n, -, h⟩ <;> rw [h]
  rfl

/-! ## Operating states -/

theorem State.enterRunning_linkBlocks : s.enterRunning.linkBlocks = s.linkBlocks := by
  cases h : s.cl.link with
  | down => rw [s.enterRunning_down h]; rfl
  | up => rw [s.enterRunning_up h]; exact s.synced.enterListening_linkBlocks h

theorem State.gainSync_linkBlocks : s.gainSync.linkBlocks = s.linkBlocks := by
  unfold State.gainSync
  split
  · exact s.enterRunning_linkBlocks
  · rfl

theorem State.testDuplicate_linkBlocks (n : Station) : (s.testDuplicate n).linkBlocks = s.linkBlocks := by
  unfold State.testDuplicate
  split
  · exact (State.roleSilent_linkBlocks _).trans rfl
  · rfl

theorem State.takeHeader_linkBlocks (h : Vector Byte 9) : (s.takeHeader h).linkBlocks = s.linkBlocks := by
  unfold State.takeHeader
  split
  · exact (State.testDuplicate_linkBlocks _ _).trans (State.gainSync_linkBlocks _)
  · rfl

theorem State.byteRead_linkBlocks (answer : Option Byte) : (s.byteRead answer).linkBlocks = s.linkBlocks := by
  unfold State.byteRead State.judgeImage
  (repeat' split) <;> rfl

/-! ## The decisions under way -/

theorem State.endCard_linkBlocks (d : CardDecision) (c : Counter) : (s.endCard d c).linkBlocks = s.linkBlocks := by
  unfold State.endCard
  split
  · exact State.releaseReserve_linkBlocks _ _
  · rfl

theorem State.endLeading_linkBlocks (ds : List CardDecision) : (s.endLeading ds).linkBlocks = s.linkBlocks := by
  induction ds generalizing s with
  | nil => rfl
  | cons d ds ih =>
    simp only [State.endLeading]
    split
    · exact (ih _).trans (s.endCard_linkBlocks _ _)
    all_goals rfl

theorem State.startCard_linkBlocks (b : BufNo) (body : List Byte) : (s.startCard b body).linkBlocks = s.linkBlocks :=
  State.endLeading_linkBlocks _ _

theorem State.putCardStage_linkBlocks (i : Nat) (d : CardDecision) (stage : CardStage) :
    (s.putCardStage i d stage).linkBlocks = s.linkBlocks :=
  State.endLeading_linkBlocks _ _

theorem State.handOverCard_linkBlocks (d : CardDecision) (f : CardFrame) (dest : Dest) :
    (s.handOverCard d f dest).linkBlocks = s.linkBlocks := by
  unfold State.handOverCard State.addTx
  (repeat' split)
  · exact s.endCard_linkBlocks _ _
  · exact s.endCard_linkBlocks _ _
  all_goals rfl

theorem State.handOverDelivery_linkBlocks (o : Bool) (f : DataFrame) : (s.handOverDelivery o f).linkBlocks = s.linkBlocks := by
  simp only [State.handOverDelivery]
  (repeat' split)
  · rfl
  · rfl
  · exact State.pushRule_linkBlocks _ _
  · rfl

/-! ## Requests -/

/-- A response made joins the list or ends its request (R165). -/
@[simp] theorem State.respond_linkBlocks (st : Status) (rs : List Byte) (w : Bool) : (s.respond st rs w).linkBlocks = s.linkBlocks := by
  unfold State.respond
  (repeat' split) <;> rfl

@[simp] theorem State.answer_linkBlocks (st : Status) (rs : List Byte) : (s.answer st rs).linkBlocks = s.linkBlocks :=
  s.respond_linkBlocks st rs false

theorem State.offerRequest_linkBlocks (tag : Byte) (body : List Byte) : (s.offerRequest tag body).linkBlocks = s.linkBlocks := by
  unfold State.offerRequest
  (repeat' split) <;> rfl

variable (args : List Byte)

theorem State.doReadEntry_linkBlocks : (s.doReadEntry args).linkBlocks = s.linkBlocks := by
  unfold State.doReadEntry
  dsimp only
  (repeat' split) <;> simp

theorem State.doReadBucket_linkBlocks : (s.doReadBucket args).linkBlocks = s.linkBlocks := by
  unfold State.doReadBucket
  split <;> simp

theorem State.doAddStatic_linkBlocks : (s.doAddStatic args).linkBlocks = s.linkBlocks := by
  unfold State.doAddStatic State.claimStatic
  dsimp only
  (repeat' split) <;> simp

theorem State.doRemove_linkBlocks : (s.doRemove args).linkBlocks = s.linkBlocks := by
  unfold State.doRemove
  dsimp only
  (repeat' split) <;> simp

theorem State.doFlush_linkBlocks : (s.doFlush args).linkBlocks = s.linkBlocks := by
  unfold State.doFlush
  (repeat' split) <;> simp

theorem State.doReadPeer_linkBlocks : (s.doReadPeer args).linkBlocks = s.linkBlocks := by
  unfold State.doReadPeer
  (repeat' split) <;> simp

theorem State.doReadCounters_linkBlocks : (s.doReadCounters args).linkBlocks = s.linkBlocks := by
  unfold State.doReadCounters
  (repeat' split) <;> simp

theorem State.doAckEvent_linkBlocks : (s.doAckEvent args).linkBlocks = s.linkBlocks := by
  unfold State.doAckEvent
  (repeat' split) <;> simp

/-- A bucket visit, and the completion of its job (R30, R33). -/
theorem State.advanceCursor_visit_linkBlocks (j : Job) : (s.visit j).advanceCursor.linkBlocks = s.linkBlocks := by
  have visited : (s.visit j).linkBlocks = s.linkBlocks := by cases j <;> rfl
  refine Eq.trans ?_ visited
  unfold State.advanceCursor State.completeJob State.flushDone
  dsimp only
  (repeat' split) <;> simp

end Sys2Proof.Machine
end

section
/-! What keeps the laws of the card link and of the delivery slot among the operations that write them: messages received and sent, the
link UP and DOWN, the warm restart, the arbiter (R76, R148 to R159). -/

namespace Sys2Proof.Machine

-- One theorem after another: each waiting elaboration holds a thread with memory of its own.
set_option Elab.async false

/-- The laws of the card link and of the delivery slot that hold of `s` hold of `t`. -/
structure State.KeepsLink (s t : State) : Prop where
  link : s.linkKept → t.linkKept
  delivery : s.deliveryKept → t.deliveryKept

/-! ## The card link's own block -/

section Card

variable {c : CardLink}

/-- An UP link with both timers running meets its law (R148). -/
theorem CardLink.sound_of_up (hup : c.link = .up) (hhold : c.holdTimer ≠ .stopped) (hidle : c.idleTimer ≠ .stopped) : c.sound :=
  ⟨fun hdown => by simp [hup] at hdown, fun _ => ⟨hhold, hidle⟩⟩

/-- A message sent leaves both timers of an UP link running (R159). -/
theorem CardLink.sound.sent (h : c.sound) : c.sent.sound := by
  obtain ⟨hdown, hup⟩ := h
  cases hlink : c.link with
  | down =>
    obtain ⟨htotals, hhold, hidle, hwindow, hbuffer, -⟩ := hdown hlink
    have stopped : c.sent.idleTimer = .stopped := by simp [CardLink.sent, hlink, hidle]
    exact ⟨fun _ => ⟨htotals, hhold, stopped, hwindow, hbuffer, rfl⟩, fun h => by simp [CardLink.sent, hlink] at h⟩
  | up =>
    obtain ⟨hhold, -⟩ := hup hlink
    exact CardLink.sound_of_up hlink hhold (by simp [CardLink.sent, CardLink.idleTime, hlink])

/-- Another receiver that writes no buffer (R149). -/
theorem CardLink.sound.setReceiver {r : Receiver} (h : c.sound) (hr : c.link = .down → r.buffer = []) :
    CardLink.sound { c with receiver := r } := by
  refine ⟨fun hdown => ?_, h.2⟩
  obtain ⟨htotals, hhold, hidle, hwindow, -, htx⟩ := h.1 hdown
  exact ⟨htotals, hhold, hidle, hwindow, hr hdown, htx⟩

/-- The restart window closed (R153). -/
theorem CardLink.sound.closeWindow (h : c.sound) : CardLink.sound { c with restartWindow := false } := by
  refine ⟨fun hdown => ?_, h.2⟩
  obtain ⟨htotals, hhold, hidle, -, hbuffer, htx⟩ := h.1 hdown
  exact ⟨htotals, hhold, hidle, rfl, hbuffer, htx⟩

/-- The delivered total moves on with the link UP alone (R158). -/
theorem CardLink.sound.advanceDelivered (h : c.sound) {straddled : Bool} (hs : c.link = .down → straddled = true) :
    (c.advanceDelivered straddled).sound := by
  cases straddled with
  | true => exact h
  | false =>
    have notDown : c.link ≠ .down := fun hdown => by simpa using hs hdown
    exact ⟨fun hdown => absurd hdown notDown, h.2⟩

/-- A DATA_IN being sent straddles the DOWN (R158). -/
theorem straddle_unbroken (m : Option OutMessage) : (m.map straddle).any OutMessage.unbroken = false := by
  cases m with
  | none => rfl
  | some m => cases m <;> rfl

/-- A message that straddles the DOWN stays what it is (R158). -/
theorem straddle_isDataIn (m : Option OutMessage) : (m.map straddle).any OutMessage.isDataIn = m.any OutMessage.isDataIn := by
  cases m with
  | none => rfl
  | some m => cases m <;> rfl

/-- The DOWN brings the card link to what its law asks for (R152). -/
theorem CardLink.goDown_sound (c : CardLink) : c.goDown.sound :=
  ⟨fun _ => ⟨rfl, rfl, rfl, rfl, rfl, straddle_unbroken c.tx⟩, nofun⟩

/-- No DATA_IN is being sent after a warm restart (R64, R153). -/
theorem restartMessage_isDataIn (m : Option OutMessage) : (restartMessage m).any OutMessage.isDataIn = false := by
  cases m with
  | none => rfl
  | some m => cases m <;> rfl

/-- No DATA_IN that counts is being sent after a warm restart (R64, R153). -/
theorem restartMessage_unbroken (m : Option OutMessage) : (restartMessage m).any OutMessage.unbroken = false := by
  cases m with
  | none => rfl
  | some m => cases m <;> rfl

/-- A CREDIT, an EVENT or an IDLE is no DATA_IN. -/
theorem not_isDataIn_of_isPlain {m : Option OutMessage} (h : m.any OutMessage.isPlain = true) :
    m.any OutMessage.isDataIn = false := by
  cases m with
  | none => rfl
  | some m => cases m <;> simp_all [OutMessage.isPlain, OutMessage.isDataIn]

/-- A DATA_OUT being received at a warm restart is stale (R155). -/
theorem restartReceiver_buffer (r : Receiver) : (restartReceiver r).buffer = [] := by cases r <;> rfl

/-- What the warm restart sends on. -/
theorem CardLink.warmRestart_tx (c : CardLink) : c.warmRestart.tx = restartMessage c.tx := by
  unfold CardLink.warmRestart
  split <;> rfl

/-- The warm restart keeps the link, its timers and, while it is DOWN, its totals (R153, R188). -/
theorem CardLink.sound.warmRestart (h : c.sound) : c.warmRestart.sound := by
  obtain ⟨hdown, hup⟩ := h
  unfold CardLink.warmRestart
  split
  case isTrue hlink => exact CardLink.sound_of_up hlink (hup hlink).1 (hup hlink).2
  case isFalse hlink =>
    refine ⟨fun h => ?_, hup⟩
    obtain ⟨htotals, hhold, hidle, hwindow, -, -⟩ := hdown h
    exact ⟨htotals, hhold, hidle, hwindow, restartReceiver_buffer _, restartMessage_unbroken _⟩

end Card

/-- Behind a good message the link is UP with both timers running, and what is being sent goes on (R150, R151). -/
theorem State.goodMessage_link (s : State) :
    s.goodMessage.cl.link = .up ∧ s.goodMessage.cl.holdTimer ≠ .stopped ∧
      (s.linkKept → s.goodMessage.cl.idleTimer ≠ .stopped) ∧
      s.goodMessage.cl.tx = s.cl.tx ∧ s.goodMessage.bq.deliverySlot = s.bq.deliverySlot := by
  rw [State.goodMessage_eq]
  unfold State.heard
  split
  case isTrue hup => exact ⟨hup, nofun, fun hs => (hs.2 hup).2, rfl, rfl⟩
  case isFalse => split <;> simp

/-! ## Kinds of change -/

namespace State.KeepsLink

section Kinds

variable {s t u : State}

/-- One change after another keeps the laws. -/
theorem trans (h : s.KeepsLink t) (h' : t.KeepsLink u) : s.KeepsLink u :=
  ⟨fun hs => h'.link (h.link hs), fun hs => h'.delivery (h.delivery hs)⟩

/-- What leaves the blocks keeps the laws. -/
theorem of_blocks (h : t.linkBlocks = s.linkBlocks) : s.KeepsLink t :=
  ⟨fun hs => (State.linkKept_iff t).2 (h ▸ (State.linkKept_iff s).1 hs),
    fun hs => (State.deliveryKept_iff t).2 (h ▸ (State.deliveryKept_iff s).1 hs)⟩

/-- What does not change keeps the laws. -/
theorem refl (s : State) : s.KeepsLink s := of_blocks rfl

/-- A change that leaves the blocks, after one that keeps the laws. -/
theorem blocks (h : s.KeepsLink t) (hu : u.linkBlocks = t.linkBlocks) : s.KeepsLink u := h.trans (of_blocks hu)

/-- With the link UP the totals, the restart window and the receiver are free. -/
theorem of_up (h : s.KeepsLink t) (hup : s.linkKept → t.cl.link = .up) (hlink : u.cl.link = t.cl.link)
    (hhold : u.cl.holdTimer = t.cl.holdTimer) (hidle : u.cl.idleTimer = t.cl.idleTimer) (htx : u.cl.tx = t.cl.tx)
    (hslot : u.bq.deliverySlot = t.bq.deliverySlot) : s.KeepsLink u where
  link hs := by
    obtain ⟨holds, idles⟩ := (h.link hs).2 (hup hs)
    exact CardLink.sound_of_up (hlink.trans (hup hs)) (hhold ▸ holds) (hidle ▸ idles)
  delivery hs := by
    rw [State.deliveryKept, hslot, htx]
    exact h.delivery hs

/-- Another receiver that writes no buffer while the link is DOWN (R149). -/
theorem setReceiver {r : Receiver} (hr : s.cl.link = .down → r.buffer = []) : s.KeepsLink { s with cl.receiver := r } where
  link hs := CardLink.sound.setReceiver (c := s.cl) hs hr
  delivery hs := hs

/-- A part as after a reset, whatever its configuration. -/
theorem of_reset (hcl : t.cl = .reset) (hbq : t.bq = .reset) : s.KeepsLink t where
  link _ := by simp [State.linkKept, hcl, CardLink.reset, CardLink.totals, Receiver.buffer]
  delivery _ := by simp [State.deliveryKept, hcl, hbq, CardLink.reset, Pool.reset]

/-! ## Messages sent (R76, R158, R159) -/

/-- A message other than a DATA_IN has been sent. -/
theorem messageSent (htx : s.cl.tx.any OutMessage.isDataIn = false) : s.KeepsLink s.messageSent where
  link hs := CardLink.sound.sent (c := s.cl) hs
  delivery hs := hs.trans htx

/-- A STATUS has been sent, one with restart flag 1 with the restart window closed (R153). -/
theorem endStatus {op : OpState} {role : Role} {seg : Option Station} {restart : Bool}
    (htx : s.cl.tx = some (.status op role seg restart)) :
    s.KeepsLink (if restart then { s.messageSent with cl.restartWindow := false } else s.messageSent) := by
  have sent : s.KeepsLink s.messageSent := messageSent (by rw [htx]; rfl)
  split
  · exact sent.trans ⟨fun hs => CardLink.sound.closeWindow (c := s.messageSent.cl) hs, id⟩
  · exact sent

/-- A DATA_IN has been sent: its slot is emptied, and its delivered total counts unless it straddles a DOWN. -/
theorem endDataIn {tag : Byte} {body : List Byte} {straddled : Bool} (htx : s.cl.tx = some (.dataIn tag body straddled)) :
    s.KeepsLink (s.endDataIn straddled) := by
  have emptied := State.emptyDeliverySlot_linkBlocks s.messageSent
  obtain ⟨hlink, -, -, hfree, hslot⟩ := State.linkBlocks_fields emptied
  have ends : s.endDataIn straddled =
      { s.messageSent.emptyDeliverySlot.count .delivered with
        cl := s.messageSent.emptyDeliverySlot.cl.advanceDelivered straddled } := rfl
  rw [ends]
  refine ⟨fun hs => ?_, fun _ => ?_⟩
  · have sent : State.linkKept { s.messageSent with bq.deliverySlot := none } := CardLink.sound.sent (c := s.cl) hs
    refine CardLink.sound.advanceDelivered ((of_blocks emptied).link sent) fun hdown => ?_
    obtain ⟨-, -, -, -, -, hbroken⟩ := hs.1 (hlink.symm.trans hdown)
    simpa [htx, OutMessage.unbroken] using hbroken
  · have free : (s.messageSent.emptyDeliverySlot.cl.advanceDelivered straddled).tx = none := by
      cases straddled <;> exact hfree
    show s.messageSent.emptyDeliverySlot.bq.deliverySlot.isSome = Option.any OutMessage.isDataIn _
    rw [free, hslot]
    rfl

/-- A message begins on an idle transmitter of an UP link, with a record in the delivery slot exactly for a DATA_IN. -/
theorem begins {m : OutMessage} (htx : s.cl.tx = none) (hup : s.cl.link = .up) (hlink : t.cl.link = s.cl.link)
    (hhold : t.cl.holdTimer = s.cl.holdTimer) (hidle : t.cl.idleTimer = s.cl.idleTimer) (hm : t.cl.tx = some m)
    (hslot : if m.isDataIn then t.bq.deliverySlot.isSome else t.bq.deliverySlot = s.bq.deliverySlot) : s.KeepsLink t where
  link hs := by
    obtain ⟨holds, idles⟩ := hs.2 hup
    exact CardLink.sound_of_up (hlink.trans hup) (hhold ▸ holds) (hidle ▸ idles)
  delivery hs := by
    have empty : s.bq.deliverySlot.isSome = false := by rw [hs, htx]; rfl
    rw [State.deliveryKept, hm]
    cases hd : m.isDataIn <;> simp [hd] at hslot ⊢
    · simpa [hslot] using empty
    · exact hslot

/-- The arbiter's choice (R159). -/
theorem arbitrate (s : State) : s.KeepsLink s.arbitrate := by
  rcases s.arbitrate_cases with
    hu | ⟨htx, hup, ⟨f, hu⟩ | hu | ⟨r, rs, -, hu⟩ | ⟨e, es, -, hu⟩ | ⟨r, rs, body, -, -, hu⟩ | hu⟩ <;> rw [hu]
  case inl => exact refl s
  all_goals exact begins htx hup rfl rfl rfl rfl rfl

/-! ## Messages received (R149 to R157) -/

/-- What every good message does first (R149, R150, R151). -/
theorem goodMessage (s : State) : s.KeepsLink s.goodMessage := by
  obtain ⟨hup, hhold, hidle, htx, hslot⟩ := s.goodMessage_link
  exact ⟨fun hs => CardLink.sound_of_up hup hhold (hidle hs), fun hs => by rwa [State.deliveryKept, hslot, htx]⟩

/-- A good header received: while the link is DOWN the DATA_OUT is stale (R149, R155). -/
theorem receiveHeader (s : State) (h : LinkHeader) (arrived : List Byte) : s.KeepsLink (s.receiveHeader h arrived) := by
  unfold State.receiveHeader
  split
  case isFalse => exact setReceiver fun _ => rfl
  case isTrue =>
    simp only [State.receiveDataOut]
    split
    case h_1 b hm =>
      have notDown (hdown : s.cl.link = .down) : False := by
        rw [State.dataOutMode_stale (.inl hdown)] at hm
        cases hm
      exact trans (of_blocks (by rw [State.storeBody_linkBlocks]; rfl)) (setReceiver fun hdown => (notDown (by simpa using hdown)).elim)
    case h_2 hm => rw [hm]; exact setReceiver fun _ => rfl
    case h_3 hm => rw [hm]; exact setReceiver fun _ => rfl

/-- The sequence check's acceptance, with the link UP (R156). -/
theorem acceptSequence (h : s.KeepsLink t) (hup : s.linkKept → t.cl.link = .up) (tag : Byte) (lost : Nat) :
    s.KeepsLink (t.acceptSequence tag lost) := by
  obtain ⟨hlink, hhold, hidle, htx, hslot⟩ := State.linkBlocks_fields (t.freeLost_linkBlocks lost)
  exact h.of_up hup hlink hhold hidle htx hslot

/-- A DATA_OUT of good check taken by its mode (R155, R156). -/
theorem takeDataOut (h : s.KeepsLink t) (hup : t.cl.link = .up) (tag : Byte) (m : DataOutMode) (body : List Byte) :
    s.KeepsLink (t.takeDataOut tag m body) := by
  unfold State.takeDataOut
  split
  · exact h
  · exact h.blocks rfl
  · split
    · exact h.blocks rfl
    · exact (h.acceptSequence (fun _ => hup) tag _).blocks (State.startCard_linkBlocks _ _ _)

/-- A DATA_OUT of failed check, with the link UP where it has a buffer (R150, R155, R156). -/
theorem takeBadDataOut (h : s.KeepsLink t) (tag : Byte) (m : DataOutMode)
    (hup : ∀ b, m = .into b → s.linkKept → t.cl.link = .up) : s.KeepsLink (t.takeBadDataOut tag m) := by
  unfold State.takeBadDataOut
  split
  · exact h.blocks rfl
  · exact h.blocks rfl
  case h_3 b =>
    split
    · exact h.blocks rfl
    · exact (h.acceptSequence (hup b rfl) tag _).blocks (State.releaseReserve_linkBlocks _ b)

/-- The accept total taken (R157). -/
theorem takeAccept (h : s.KeepsLink t) (hup : t.cl.link = .up) (total : Byte) : s.KeepsLink (t.takeAccept total) := by
  unfold State.takeAccept
  split
  · exact h.of_up (fun _ => hup) rfl rfl rfl rfl rfl
  · exact h.blocks rfl

/-! ## Warm restart and DOWN (R152, R153) -/

/-- The warm restart: no DATA_IN goes on and the delivery slot is empty (R64, R153, R188). -/
theorem warmRestart (s : State) (straps : Station) : s.KeepsLink (s.warmRestart straps) where
  link hs := CardLink.sound.warmRestart (c := s.cl) hs
  delivery _ := by
    show false = s.cl.warmRestart.tx.any OutMessage.isDataIn
    rw [CardLink.warmRestart_tx, restartMessage_isDataIn]

/-- The DOWN, and the warm restart that may follow it (R152, R173). -/
theorem linkDown (s : State) (straps : Station) : s.KeepsLink (s.linkDown straps) := by
  have cut : s.KeepsLink { s with cl := s.cl.goDown } :=
    ⟨fun _ => s.cl.goDown_sound, fun hs => hs.trans (straddle_isDataIn s.cl.tx).symm⟩
  have fallen : s.KeepsLink s.fallen :=
    cut.blocks ((State.roleDown_linkBlocks _).trans (State.poolDown_linkBlocks _))
  rw [State.linkDown_eq]
  split
  · exact fallen.trans (warmRestart _ straps)
  · exact fallen

/-- A RESTART executed (R173; log 13). -/
theorem doRestart (s : State) (straps : Station) : s.KeepsLink (s.doRestart straps) := by
  unfold State.doRestart
  split
  · exact warmRestart s straps
  · exact of_blocks (s.respond_linkBlocks _ _ _)

/-- The end of a RESPONSE (R165, R173). -/
theorem endResponse {r : Response} (htx : s.cl.tx = some (.response r)) (straps : Station) : s.KeepsLink (s.endResponse r straps) := by
  have sent : s.KeepsLink s.messageSent := messageSent (by rw [htx]; rfl)
  unfold State.endResponse
  (repeat' split)
  · exact sent.trans (warmRestart _ straps)
  · exact sent.blocks rfl
  all_goals exact sent

end Kinds

end State.KeepsLink

end Sys2Proof.Machine
end

section
/-! Every command and every step keeps the laws of the card link, of the delivery slot and of the arbiter (R148, R152, R158, R159). -/

namespace Sys2Proof.Machine

-- One theorem after another: each waiting elaboration holds a thread with memory of its own.
set_option Elab.async false

variable {s t : State}

/-! ## The arbiter (R159) -/

/-- The choice of an idle transmitter starts a message unless nothing is ready (R159). -/
theorem State.choose_nothingReady (h : s.choose.cl.tx = none) : s.choose = s ∧ s.nothingReady := by
  cases hs : s.cl.statusPending with
  | some flag => simp [State.choose_status hs] at h
  | none =>
    by_cases hg : s.cl.grantTotal = s.cl.lastCredit
    case neg => simp [State.choose_credit hs hg] at h
    case pos =>
      cases hr : s.cl.responses with
      | cons r rs => simp [State.choose_response hs hg hr] at h
      | nil =>
        cases he : s.ec.queue with
        | cons e es => simp [State.choose_event hs hg hr he] at h
        | nil =>
          rw [State.choose_data hs hg hr he] at h ⊢
          by_cases blocked : s.bq.deliveryQ = [] ∨ s.bq.deliverySlot ≠ none ∨ s.cl.acceptTotal = s.cl.deliveredTotal
          case neg =>
            simp only [not_or, not_not] at blocked
            obtain ⟨hq, hslot, ha⟩ := blocked
            obtain ⟨r, rs, hq⟩ := List.exists_cons_of_ne_nil hq
            simp [State.chooseData_sent hq hslot ha] at h
          case pos =>
            rw [State.chooseData_idle blocked] at h ⊢
            by_cases hidle : s.cl.idleTimer = .running 0
            · simp [hidle] at h
            · rw [if_neg hidle]
              exact ⟨rfl, hs, hg, hr, he, by rwa [s.cl.allowance_eq_zero], hidle⟩

/-- After the arbiter's choice an idle transmitter of an UP link has nothing ready (R159). -/
theorem State.arbitrate_arbiterKept (s : State) : s.arbitrate.arbiterKept := by
  rintro ⟨hidle, hup⟩
  by_cases held : s.cl.tx = none ∧ s.cl.link = .up
  case neg =>
    have same : s.arbitrate = s := if_neg held
    rw [same] at hidle hup
    exact absurd ⟨hidle, hup⟩ held
  case pos =>
    rw [State.arbitrate_free held.1 held.2] at hidle ⊢
    obtain ⟨same, ready⟩ := State.choose_nothingReady hidle
    exact same.symm ▸ ready

/-- A command that an event's effect gives keeps the arbiter's law, whatever the effect (R159). -/
theorem takeEvent_arbiterKept {e : Option State} (h : takeEvent s e = .next t) (hs : s.arbiterKept) : t.arbiterKept := by
  rcases takeEvent_cases s e t h with rfl | ⟨u, -, -, rfl⟩
  · exact hs
  · exact u.arbitrate_arbiterKept

/-- Every command keeps the arbiter's law: a start leaves the link DOWN, any other ends with the arbiter. -/
theorem exec_arbiterKept (c : Instr) (h : exec c s = .next t) (hs : s.arbiterKept) : t.arbiterKept := by
  cases c
  case deviceReset => cases h; exact fun ⟨_, hup⟩ => nomatch hup
  case resetRelease => cases h; exact fun ⟨_, hup⟩ => nomatch hup
  all_goals exact takeEvent_arbiterKept h hs

/-! ## Every command -/

/-- A command keeps the laws where its effect does. -/
theorem takeEvent_keepsLink {e : Option State} (h : takeEvent s e = .next t) (he : ∀ u, e = some u → s.KeepsLink u) :
    s.KeepsLink t :=
  takeEvent_keeps s (s.KeepsLink ·) e t (.refl s) he (fun u hu => hu.trans (.arbitrate u)) h

/-- An effect under a condition. -/
theorem keepsLink_guarded {c : Prop} [Decidable c] {v : State} (h : c → s.KeepsLink v) :
    ∀ u, (if c then some v else none) = some u → s.KeepsLink u := by
  intro u hu
  split at hu
  case isTrue hc => cases hu; exact h hc
  case isFalse => cases hu

/-- An effect under a condition that leaves the blocks. -/
theorem linkBlocks_guarded {c : Prop} [Decidable c] {v : State} (h : v.linkBlocks = s.linkBlocks) :
    ∀ u, (if c then some v else none) = some u → s.KeepsLink u := keepsLink_guarded fun _ => .of_blocks h

/-- A management request. -/
theorem execute_keepsLink {c : ReqCode} {effect : State → List Byte → State} (h : takeEvent s (s.execute c effect) = .next t)
    (he : ∀ args, s.KeepsLink (effect s args)) : s.KeepsLink t := by
  refine takeEvent_keepsLink h fun u hu => ?_
  unfold State.execute at hu
  split at hu
  · cases hu
  · refine keepsLink_guarded (fun _ => ?_) u hu
    split
    · exact he _
    · exact .of_blocks (s.answer_linkBlocks _ _)

/-- A management request that leaves the blocks. -/
theorem execute_linkBlocks {c : ReqCode} {effect : State → List Byte → State} (h : takeEvent s (s.execute c effect) = .next t)
    (he : ∀ args, (effect s args).linkBlocks = s.linkBlocks) : s.KeepsLink t :=
  execute_keepsLink h fun args => .of_blocks (he args)

/-- The learn of a decision under way (R45, R56). -/
theorem execLearn_keepsLink (side : Side) (i : Nat) (h : execLearn side i s = .next t) : s.KeepsLink t := by
  have learned (e : Eid) (z : Zone) (p : Place) : (s.issueLearn e z p).linkBlocks = s.linkBlocks := State.linkBlocks_of_cl
  refine takeEvent_keepsLink h fun u hu => .of_blocks ?_
  cases side with
  | card =>
    simp only [State.cardLearn] at hu
    (repeat' split at hu) <;> cases hu
    exact (State.putCardStage_linkBlocks _ _ _ _).trans (learned _ _ _)
  | backplane =>
    simp only [State.backplaneLearn] at hu
    (repeat' split at hu) <;> cases hu
    exact learned _ _ _

/-- The lookup of a decision under way, or its read of the peer table (R47, R48, R50, R59). -/
theorem execLookup_keepsLink (side : Side) (i : Nat) (h : execLookup side i s = .next t) : s.KeepsLink t := by
  refine takeEvent_keepsLink h fun u hu => .of_blocks ?_
  cases side with
  | card =>
    simp only [State.cardLookup] at hu
    (repeat' split at hu) <;> cases hu
    all_goals exact s.putCardStage_linkBlocks _ _ _
  | backplane =>
    simp only [State.backplaneLookupStep] at hu
    (repeat' split at hu) <;> cases hu
    rfl

/-- A DATA_OUT being received has a buffer with the link UP alone (R155). -/
theorem State.linkKept.up_of_receiving (hs : s.linkKept) {h : LinkHeader} {got : List Byte} {b : BufNo}
    (hreceiver : s.cl.receiver = .body h got (.into b)) : s.cl.link = .up := by
  cases hlink : s.cl.link with
  | up => rfl
  | down =>
    obtain ⟨-, -, -, -, hbuffer, -⟩ := hs.1 hlink
    simp [hreceiver, Receiver.buffer] at hbuffer

/-- Every command keeps the laws. -/
theorem exec_keepsLink (c : Instr) (h : exec c s = .next t) : s.KeepsLink t := by
  have heard := State.KeepsLink.goodMessage s
  obtain ⟨up, -⟩ := s.goodMessage_link
  have read : s.KeepsLink { s with cl.receiver := .header [] } := .setReceiver fun _ => rfl
  cases c with
  | deviceReset => cases h; exact .of_reset rfl rfl
  | resetRelease straps => cases h; exact .of_reset rfl rfl
  | configByteRead answer => exact takeEvent_keepsLink h (linkBlocks_guarded (s.byteRead_linkBlocks answer))
  | mediumGoesIdle truncated => exact takeEvent_keepsLink h (linkBlocks_guarded (s.countCut_linkBlocks truncated))
  | mediumLeavesIdle => exact takeEvent_keepsLink h (linkBlocks_guarded rfl)
  | rungStart =>
    refine takeEvent_keepsLink h fun u hu => ?_
    split at hu
    · obtain ⟨k, -, rfl⟩ := Option.map_eq_some_iff.1 hu
      exact .of_blocks (s.beginRung_linkBlocks k)
    · cases hu
  | quietCountExpiry => exact takeEvent_keepsLink h (linkBlocks_guarded (State.enterRunning_linkBlocks _))
  | ownHeaderSent => exact takeEvent_keepsLink h (linkBlocks_guarded rfl)
  | controlFrameSent => exact takeEvent_keepsLink h (linkBlocks_guarded rfl)
  | dataFrameSent =>
    refine takeEvent_keepsLink h fun u hu => ?_
    (repeat' split at hu) <;> cases hu
    exact .of_blocks (State.pushRule_linkBlocks _ _)
  | collision => exact takeEvent_keepsLink h (linkBlocks_guarded rfl)
  | jamEnd => exact takeEvent_keepsLink h (linkBlocks_guarded (State.endJam_linkBlocks _))
  | jamSeen =>
    refine takeEvent_keepsLink h (linkBlocks_guarded ?_)
    split
    · exact State.gainSync_linkBlocks _
    · rfl
  | headerReceived header => exact takeEvent_keepsLink h (linkBlocks_guarded (s.takeHeader_linkBlocks header))
  | frameReceived rest =>
    refine takeEvent_keepsLink h fun u hu => ?_
    split at hu <;> cases hu
    exact .of_blocks (State.handOn_linkBlocks _ _)
  | announceTimerExpiry =>
    refine takeEvent_keepsLink h fun u hu => ?_
    split at hu <;> cases hu
    exact .of_blocks s.agePeers_linkBlocks
  | listenTimerExpiry => exact takeEvent_keepsLink h (linkBlocks_guarded s.endListening_linkBlocks)
  | dataOutHeader header arrived => exact takeEvent_keepsLink h (keepsLink_guarded fun _ => .receiveHeader s header arrived)
  | dataOut body =>
    refine takeEvent_keepsLink h fun u hu => ?_
    split at hu
    case h_1 header got mode _ =>
      have stored := heard.blocks (s.goodMessage.storeBody_linkBlocks mode body)
      exact keepsLink_guarded (fun _ => stored.takeDataOut (by simpa using up) header.tag mode body) u hu
    all_goals cases hu
  | request tag body =>
    exact takeEvent_keepsLink h (keepsLink_guarded fun _ => heard.blocks (State.offerRequest_linkBlocks _ tag body))
  | receiveReady total => exact takeEvent_keepsLink h (keepsLink_guarded fun _ => heard.takeAccept up total)
  | idle => exact takeEvent_keepsLink h (keepsLink_guarded fun _ => heard)
  | unusableMessage type length =>
    refine takeEvent_keepsLink h fun u hu => ?_
    split at hu
    case h_1 =>
      have counted : s.KeepsLink (s.goodMessage.count .linkMsgErr) := heard.blocks rfl
      exact keepsLink_guarded (fun _ => counted) u hu
    all_goals cases hu
  | messageBadCheck =>
    refine takeEvent_keepsLink h fun u hu => ?_
    split at hu
    case h_1 header got mode hreceiver =>
      have receiving (b : BufNo) (hmode : mode = .into b) (hs : s.linkKept) : s.cl.link = .up :=
        hs.up_of_receiving (hmode ▸ hreceiver)
      exact keepsLink_guarded (fun _ => read.takeBadDataOut header.tag mode receiving) u hu
    case h_2 =>
      have counted : s.KeepsLink (State.count { s with cl.receiver := .header [] } .linkMsgErr) := read.blocks rfl
      exact keepsLink_guarded (fun _ => counted) u hu
    all_goals cases hu
  | linkHeaderRejected bytes =>
    exact takeEvent_keepsLink h (keepsLink_guarded fun _ => .setReceiver fun _ => rescan_buffer bytes)
  | linkHoldExpiry straps => exact takeEvent_keepsLink h (keepsLink_guarded fun _ => .linkDown s straps)
  | idleTimerExpiry =>
    refine takeEvent_keepsLink h (keepsLink_guarded fun hticks => ?_)
    exact ⟨fun hs => CardLink.sound_of_up hticks.1 (hs.2 hticks.1).1 (by simp), id⟩
  | dataInEnd =>
    refine takeEvent_keepsLink h fun u hu => ?_
    split at hu
    case h_1 htx => cases hu; exact .endDataIn htx
    case h_2 => cases hu
  | responseEnd straps =>
    refine takeEvent_keepsLink h fun u hu => ?_
    split at hu
    case h_1 htx => cases hu; exact .endResponse htx straps
    case h_2 => cases hu
  | statusEnd =>
    refine takeEvent_keepsLink h fun u hu => ?_
    split at hu
    case h_1 htx => cases hu; exact .endStatus htx
    case h_2 => cases hu
  | messageEnd =>
    exact takeEvent_keepsLink h (keepsLink_guarded fun hplain => .messageSent (not_isDataIn_of_isPlain hplain))
  | readEntry => exact execute_linkBlocks h s.doReadEntry_linkBlocks
  | readBucket => exact execute_linkBlocks h s.doReadBucket_linkBlocks
  | addStatic => exact execute_linkBlocks h s.doAddStatic_linkBlocks
  | remove => exact execute_linkBlocks h s.doRemove_linkBlocks
  | flush => exact execute_linkBlocks h s.doFlush_linkBlocks
  | readPeer => exact execute_linkBlocks h s.doReadPeer_linkBlocks
  | readStatus => exact execute_linkBlocks h fun _ => s.answer_linkBlocks _ _
  | readCounters => exact execute_linkBlocks h s.doReadCounters_linkBlocks
  | ackEvent => exact execute_linkBlocks h s.doAckEvent_linkBlocks
  | restart straps => exact execute_keepsLink h fun _ => .doRestart s straps
  | badRequest =>
    refine takeEvent_keepsLink h fun u hu => ?_
    split at hu
    case h_1 => exact linkBlocks_guarded (s.answer_linkBlocks _ _) u hu
    case h_2 => cases hu
  | sweepTimerExpiry =>
    refine takeEvent_keepsLink h fun u hu => ?_
    split at hu <;> cases hu
    exact .of_blocks rfl
  | bucketVisit =>
    refine takeEvent_keepsLink h fun u hu => ?_
    obtain ⟨j, -, rfl⟩ := Option.map_eq_some_iff.1 hu
    exact .of_blocks (s.advanceCursor_visit_linkBlocks j)
  | learn side i => exact execLearn_keepsLink side i h
  | lookup side i => exact execLookup_keepsLink side i h
  | btqHandover =>
    refine takeEvent_keepsLink h fun u hu => ?_
    (repeat' split at hu) <;> cases hu
    exact .of_blocks ((State.endLeading_linkBlocks _ _).trans (s.handOverCard_linkBlocks _ _ _))
  | deliveryHandover =>
    refine takeEvent_keepsLink h fun u hu => ?_
    (repeat' split at hu) <;> cases hu
    exact .of_blocks (s.handOverDelivery_linkBlocks _ _)

/-! ## Every step -/

/-- Settles O58: the card link and the delivery slot by what each command keeps, the arbiter by its choice at each command's end. -/
theorem linkStaysSound : Obligations.LinkStaysSound := by
  intro s t h
  unfold step at h
  split at h
  case h_1 =>
    cases h
    have passed := State.KeepsLink.of_blocks s.passSlot_linkBlocks
    refine ⟨passed.link, passed.delivery, fun hs => ?_⟩
    rcases s.passSlot_cases with same | ⟨-, -, n, -, slot⟩
    · exact same.symm ▸ hs
    · exact slot.symm ▸ hs
  case h_2 c rest _ =>
    have kept := exec_keepsLink c h
    have arbiter := exec_arbiterKept c h
    exact ⟨kept.link, kept.delivery, arbiter⟩

end Sys2Proof.Machine
end

section
/-! The end of a RESPONSE (R159, R164, R165, R173). -/

namespace Sys2Proof.Machine

variable {s : State} {r : Response} {straps : Station}

/-- RESPONSE_END (R159, R165). -/
theorem exec_responseEnd (hr : s.resetAsserted = false) (htx : s.cl.tx = some (.response r)) :
    exec (.responseEnd straps) s = .next (s.endResponse r straps).arbitrate := by
  show takeEvent s (match s.cl.tx with | some (.response r) => _ | _ => none) = _
  simp only [htx]
  exact takeEvent_some s _ hr

/-- The end of a BUSY answer does nothing further (R165). -/
theorem State.endResponse_busy (hbusy : r.fromEngine = false) : s.endResponse r straps = s.messageSent :=
  if_neg (by simp [hbusy])

/-- The end of the engine's response finishes its request (R165). -/
theorem State.endResponse_finishes (hown : r.fromEngine = true) (hstage : s.me.stage = .waitSend false) :
    s.endResponse r straps = s.messageSent.finishRequest := by
  simp only [State.endResponse, hown, hstage, if_true]

/-- The end of a RESTART's response begins the warm restart (R173). -/
theorem State.endResponse_restarts (hown : r.fromEngine = true) (hstage : s.me.stage = .waitSend true) :
    s.endResponse r straps = s.messageSent.warmRestart straps := by
  simp only [State.endResponse, hown, hstage, if_true]

/-- Settles O36, by whose response it is and what the engine waits for. -/
theorem responsesEnd : Obligations.ResponsesEnd := by
  intro s r straps hr htx idleTimer sent
  have ends := exec_responseEnd (straps := straps) hr htx
  refine ⟨fun hbusy => ?busy, fun hown hstage => ?finish, fun hown hstage => ?restart⟩
  case busy => rw [ends, State.endResponse_busy hbusy]; rfl
  case finish =>
    rw [ends, State.endResponse_finishes hown hstage]
    refine ⟨fun hq => ?_, fun q qs hq => ?_⟩
    · rw [State.finishRequest_idle _ (by exact hq)]; rfl
    · rw [State.finishRequest_next _ q qs (by exact hq)]; rfl
  case restart => rw [ends, State.endResponse_restarts hown hstage]; rfl

end Sys2Proof.Machine
end

section
/-! READ_ENTRY and READ_BUCKET (R17, R130, R167). -/

namespace Sys2Proof.Machine

/-! ## The entries of a bucket -/

/-- The ways of a bucket that hold an entry, in rising order, each with its entry (R17). -/
def heldEntries (b : Bucket) : List (Way × Entry) := allWays.filterMap fun w => b[w].map fun x => (w, x)

/-- The number of entries of a bucket is the number of ways that hold one (R167). -/
theorem countEntries_true (b : Bucket) : countEntries (fun _ => true) b = (heldEntries b).length := by
  rw [countEntries, heldEntries, List.length_filterMap_eq_countP]
  refine List.countP_congr fun w _ => ?_
  cases b[w] <;> simp

/-- The records of a bucket are those of its held ways (R130, R167). -/
theorem bucketRecords_eq (b : Bucket) : bucketRecords b = (heldEntries b).flatMap fun held => entryRecord held.1 held.2 := by
  rw [bucketRecords, heldEntries, List.filterMap_eq_flatMap_toList, List.flatMap_assoc]
  refine List.flatMap_congr fun w _ => ?_
  cases b[w] <;> simp

/-! ## The two reads -/

section Reads

variable (s : State)

/-- READ_ENTRY of an EID that its bucket holds answers the entry's record (R17, R167). -/
theorem State.doReadEntry_found (hi lo : Byte) (w : Way) (x : Entry)
    (hw : findWay (bucketFor s.lt (word16 hi lo)) (word16 hi lo) = some w)
    (hx : (bucketFor s.lt (word16 hi lo))[w] = some x) :
    s.doReadEntry [hi, lo] = s.answer .ok (entryRecord w x) := by
  simp only [State.doReadEntry, hw, hx, Option.map_some, Option.getD_some]

/-- READ_ENTRY of an EID that its bucket does not hold answers NOT_FOUND (R17, R167). -/
theorem State.doReadEntry_missing (hi lo : Byte)
    (h : findWay (bucketFor s.lt (word16 hi lo)) (word16 hi lo) = none) :
    s.doReadEntry [hi, lo] = s.answer .notFound [] := by
  simp only [State.doReadEntry, h]

/-- READ_BUCKET answers the bucket's number, its count and the records of its held ways (R17, R130, R167). -/
theorem State.doReadBucket_eq (n : Byte) :
    s.doReadBucket [n] =
      s.answer .ok (n :: byteOf (heldEntries s.lt[n.toFin]).length ::
        (heldEntries s.lt[n.toFin]).flatMap fun held => entryRecord held.1 held.2) := by
  simp only [State.doReadBucket, countEntries_true, bucketRecords_eq]

end Reads

/-- Settles O40: READ_ENTRY by the way that the search of the bucket finds, READ_BUCKET by the ways that hold an entry. -/
theorem tableReads : Obligations.TableReads := by
  intro s op tag hi lo hr hs hd hl hc answered record
  have recorded : record = entryRecord := by
    funext w x
    obtain ⟨e, z, place, kind, age⟩ := x
    cases place <;> cases kind <;> rfl
  refine ⟨?entry, ?bucket⟩
  case entry =>
    intro hcur b
    have hb : bucketFor s.lt (word16 hi lo) = b := by simp only [bucketFor, bucketOf_word16]; rfl
    have run : exec .readEntry s = .next (s.doReadEntry [hi, lo]).arbitrate :=
      takeEvent_execute hr .readEntry State.doReadEntry hs hcur rfl (by simp [requestAllowed, hl, hc])
    refine ⟨fun w x hx he hlow => ?found, fun habsent => ?missing⟩
    case found =>
      have found : findWay b (word16 hi lo) = some w := (findWay_eq_some b _ w).2 ⟨⟨x, hx, he⟩, hlow⟩
      rw [run, s.doReadEntry_found hi lo w x (hb ▸ found) (hb ▸ hx), s.answer_made _ _ _ hcur hd, recorded]
      rfl
    case missing =>
      have missing : findWay b (word16 hi lo) = none := (findWay_eq_none b _).2 habsent
      rw [run, s.doReadEntry_missing hi lo (hb ▸ missing), s.answer_made _ _ _ hcur hd]
      rfl
  case bucket =>
    intro hcur b held
    have run : exec .readBucket s = .next (s.doReadBucket [lo]).arbitrate :=
      takeEvent_execute hr .readBucket State.doReadBucket hs hcur rfl (by simp [requestAllowed, hl, hc])
    rw [run, s.doReadBucket_eq, s.answer_made _ _ _ hcur hd, recorded]
    rfl

end Sys2Proof.Machine
end

section
/-! Queuing a notification and raising an alarm, by the queue's room (R178, R179). -/

namespace Sys2Proof.Machine

section Queue

variable {e : EventUnit} {k : EventKind} {a : BitVec 16}

/-- One notification lost steps the lost count, up to 255 (R178). -/
theorem lostAdd_one (lost : Nat) : lostAdd lost 1 = if lost < 255 then lost + 1 else 255 := by
  unfold lostAdd
  split <;> omega

/-- EVENT_LOSS is counter 27, and counting it changes nothing else (R181). -/
theorem EventUnit.count_eventLoss (e : EventUnit) :
    e.count .eventLoss = { e with counters := e.counters.set 27 (e.counters[27] + 1) } := rfl

/-- A queue with room takes the notification at its tail (R178). -/
theorem EventUnit.notify_room (hroom : e.queue.length < eventDepth) : e.notify k a = e.append k a := if_pos hroom

/-- A full queue drops the notification and counts the loss (R178). -/
theorem EventUnit.notify_full (hfull : eventDepth ≤ e.queue.length) :
    e.notify k a = { e.count .eventLoss with lost := lostAdd e.lost 1 } := if_neg hfull.not_gt

/-- Behind alarms alone, the first notification of the queue is the oldest (R179). -/
theorem oldestNotification_append (front back : List EventRecord) {r : EventRecord}
    (hfront : ∀ x ∈ front, x.kind.isAlarm = true) (hr : r.kind.isAlarm = false) :
    oldestNotification (front ++ r :: back) = some (r, front ++ back) := by
  induction front with
  | nil => simp [oldestNotification, hr]
  | cons x xs ih =>
    obtain ⟨hx, hxs⟩ := List.forall_mem_cons.1 hfront
    simp [oldestNotification, hx, ih hxs]

/-- Raising an alarm already set does nothing (R179). -/
theorem EventUnit.raiseAlarm_set (hset : e.alarms.has k = true) : e.raiseAlarm k a = e := if_pos hset

/-- An alarm not set joins the alarm set, and a queue with room takes its record at the tail (R179). -/
theorem EventUnit.raiseAlarm_room (hclear : e.alarms.has k = false) (hroom : e.queue.length < eventDepth) :
    e.raiseAlarm k a = EventUnit.append { e with alarms := e.alarms.put k true } k a := by
  simp [EventUnit.raiseAlarm, hclear, hroom]

/-- An alarm not set takes the place of the oldest notification in a full queue: the displaced one is lost, and with it the lost
count that it carried (R179). -/
theorem EventUnit.raiseAlarm_displaces {r : EventRecord} {rest : List EventRecord} (hclear : e.alarms.has k = false)
    (hfull : eventDepth ≤ e.queue.length) (hold : oldestNotification e.queue = some (r, rest)) :
    e.raiseAlarm k a =
      EventUnit.append
        { e.count .eventLoss with
          alarms := e.alarms.put k true, queue := rest, lost := lostAdd (lostAdd e.lost 1) r.lost } k a := by
  simp [EventUnit.raiseAlarm, hclear, hfull.not_gt, hold, EventUnit.count_eventLoss]

end Queue

/-- Settles O7: the alarm set already, the queue with room, and the full queue, whose oldest notification is the one behind the
alarms at its head. -/
theorem alarmRaised : Obligations.AlarmRaised := by
  intro e k a _
  refine ⟨EventUnit.raiseAlarm_set, fun hclear => ⟨fun hroom => ?room, fun front back r hfull hq hfront hr => ?full⟩⟩
  case room => exact EventUnit.raiseAlarm_room hclear hroom
  case full =>
    have oldest : oldestNotification e.queue = some (r, front ++ back) := hq ▸ oldestNotification_append front back hfront hr
    rw [EventUnit.raiseAlarm_displaces hclear hfull oldest]
    rfl

/-- Settles O6: the queue with room and the full queue. -/
theorem notificationQueued : Obligations.NotificationQueued := by
  intro e k a
  refine ⟨EventUnit.notify_room, fun hfull => ?full⟩
  rw [EventUnit.notify_full hfull, lostAdd_one, EventUnit.count_eventLoss]

end Sys2Proof.Machine
end

section
/-! The step on a queue and on none, and RESET (R134, R144, R183). -/

namespace Sys2Proof.Machine

variable {s : State}

/-! ## The step on an empty queue (R134, R144) -/

/-- No slot passes while RESET is asserted, or away from the start of the gap (R134; log 3). -/
theorem State.passSlot_idle (h : s.resetAsserted = true ∨ s.bp.ladder ≠ .gap 2) : s.passSlot = s :=
  if_neg fun ⟨hgap, hr⟩ => h.elim hr (· hgap)

/-- At the start of the gap a slot passes, which the quiet count counts in SYNCING (R134, R144; log 25). -/
theorem State.passSlot_gap (hr : s.resetAsserted = false) (hgap : s.bp.ladder = .gap 2) :
    s.passSlot = { s.stepQuiet 1 with bp.ladder := .gap 1 } :=
  if_pos ⟨hgap, by simp [hr]⟩

/-- In SYNCING the quiet count counts the slots up to 65 (R144; log 25). -/
theorem State.stepQuiet_syncing (slots : Nat) (hop : s.cf.opState = .syncing) :
    s.stepQuiet slots = { s with bp.quietCount := min 65 (s.bp.quietCount + slots) } := if_pos hop

/-- Outside SYNCING the quiet count stands still (R144). -/
theorem State.stepQuiet_other (slots : Nat) (hop : s.cf.opState ≠ .syncing) : s.stepQuiet slots = s := if_neg hop

/-- An empty queue leaves the step the slot that may pass (log 3). -/
theorem step_empty (h : s.pending = []) : step s = .next s.passSlot := by
  simp only [step, h]

/-- The front command runs with the queue's rest. -/
theorem step_front {c : Instr} {rest : List Instr} (h : s.pending = c :: rest) :
    step s = exec c { s with pending := rest } := by
  simp only [step, h]

/-- Settles O1: the front command, and on an empty queue the slot of the gap, by the operating state. -/
theorem stepTakesFrontCommand : Obligations.StepTakesFrontCommand := by
  intro c rest s
  refine ⟨step_front, fun hempty => ⟨fun still => ?idles, fun hr hgap => ⟨fun hop => ?uncounted, fun hop => ?counted⟩⟩⟩
  case idles => rw [step_empty hempty, State.passSlot_idle still]
  case uncounted => rw [step_empty hempty, State.passSlot_gap hr hgap, State.stepQuiet_other 1 hop]
  case counted => rw [step_empty hempty, State.passSlot_gap hr hgap, State.stepQuiet_syncing 1 hop]

/-! ## RESET (R183) -/

/-- Every command but the two of RESET is an event of the part. -/
theorem exec_eq_takeEvent (s : State) {c : Instr} (hassert : c ≠ .deviceReset) (hrelease : ∀ m, c ≠ .resetRelease m) :
    ∃ effect, exec c s = takeEvent s effect := by
  cases c
  case deviceReset => exact absurd rfl hassert
  case resetRelease m => exact absurd rfl (hrelease m)
  all_goals exact ⟨_, rfl⟩

/-- Settles O2: the two commands of RESET as they stand, and every other as an event that a part held in RESET does not take. -/
theorem resetRestartsThePart : Obligations.ResetRestartsThePart := by
  refine fun s n => ⟨rfl, rfl, fun hr c hassert hrelease => ?held⟩
  case held =>
    obtain ⟨effect, isEvent⟩ := exec_eq_takeEvent s hassert hrelease
    rw [isEvent, takeEvent_held s effect hr]

end Sys2Proof.Machine
end

section
/-! The configuration image while it is read, and no memory (R184 to R186). -/

namespace Sys2Proof.Machine

variable {s : State}

/-- The fixed part is read to its end before anything is judged (R184). -/
theorem State.judgeImage_fixedPart {image : List Byte} (hlen : image.length < 14) :
    s.judgeImage image = { s with cf.image := image } := if_pos hlen

/-- Past a fixed part that passes, the image is read to its whole length before it is judged (R184, R185). -/
theorem State.judgeImage_records {image : List Byte} (hfixed : checkFixedPart image = none) (hlen : 14 ≤ image.length)
    (hshort : image.length < 16 + 4 * (image.getD 13 0).toNat) : s.judgeImage image = { s with cf.image := image } := by
  have past : ¬image.length < fixedPart := hlen.not_gt
  have unfinished : image.length < imageLength (staticCount image) := hshort
  simp only [State.judgeImage, past, if_false, hfixed, unfinished, if_true]

/-- No memory answers byte 0: LOADING ends with the defaults and no static record (R184, R186). -/
theorem State.byteRead_noMemory (h : s.cf.image = []) :
    s.byteRead none = s.endLoading (Config.defaults s.cf.station) [] := by
  simp only [State.byteRead, h]

/-- Settles O9: no memory, a byte of the fixed part, and a byte past it. -/
theorem imageIsRead : Obligations.ImageIsRead := by
  intro s hr hl
  refine ⟨fun hempty => ?noMemory, fun b => ?joins⟩
  case noMemory =>
    rw [exec_configByteRead s none hr hl, State.byteRead_noMemory hempty]
    rfl
  case joins =>
    intro image
    have read : exec (.configByteRead (some b)) s = .next (s.judgeImage image).arbitrate :=
      exec_configByteRead s (some b) hr hl
    refine ⟨fun hlen => ?fixedPart, fun hlen h0 hn h1 hshort => ?records⟩
    case fixedPart => rw [read, State.judgeImage_fixedPart hlen]
    case records => rw [read, State.judgeImage_records (checkFixedPart_good image h0 hn h1) hlen hshort]

end Sys2Proof.Machine
end
